-- ==== Sys2Proof/Word.lean ====
section
/-! DEFINITION. The words of the KB2's ports: bytes of the Station Link and nine-bit characters of the Drive Line. -/

namespace Sys2Proof

/-- One byte of a frame or a record (12_the_station_link.md R194). -/
abbrev Byte := BitVec 8

/-- One character of the Drive Line; the ninth bit marks an address character (07_the_drive_line.md R121). -/
abbrev LineChar := BitVec 9

/-- The payload of a frame, first byte first (R194). -/
abbrev Payload := List Byte

end Sys2Proof
end

