-- ==== Sys2Proof/Syntax.lean ====
section
/-! DEFINITION. The commands of the part: one constructor per row of spec/opcode_table.json, with the operands its rule
names. A request row carries the frame's TAG and payload; its CODE is that of R200. -/

namespace Sys2Proof

/-- The two bond heads (R2). -/
inductive HeadId | a | b
deriving DecidableEq, Repr

/-- The seven drives of the Drive Line by address (R119). -/
inductive Drive
  | posA | posB | indexer | inElevator | outElevator | pull | workHolder
deriving DecidableEq, Repr

/-- The levels of the inputs at power-on (R193, R203, R131, R178, R46). -/
structure Pins where
  /-- strap pin: 921,600 baud -/
  fastLink : Bool
  haltAsserted : Bool
  locked : Bool
  supervisor : Bool
  wireBreakA : Bool
  wireBreakB : Bool
  /-- attention inputs, drive address n at bit n - 1 -/
  attention : BitVec 7
deriving DecidableEq, Repr

/-- The commands. -/
inductive Instr
  /-- POWER_ON_RESET (R193) with the levels it samples -/
  | powerOnReset (pins : Pins)
  /-- WARM_RESTART_RESET (R192) -/
  | warmRestartReset
  /-- LINK_BYTE_RECEIVED (R195): a byte, and whether its stop bit was good -/
  | linkByteReceived (byte : Byte) (stopBit : Bool)
  /-- LINK_GAP_TIMEOUT (R195) -/
  | linkGapTimeout
  /-- FRAME_SENT (R199) -/
  | frameSent
  /-- UNKNOWN_CODE (R197): a good frame whose CODE is no request -/
  | unknownCode (code tag : Byte) (payload : Payload)
  /-- IDENTIFY (R201) -/
  | identify (tag : Byte) (payload : Payload)
  /-- LINK_ECHO (R202) -/
  | linkEcho (tag : Byte) (payload : Payload)
  /-- SET_MODE (R180) -/
  | setMode (tag : Byte) (payload : Payload)
  /-- GET_CELL_STATUS (R191) -/
  | getCellStatus (tag : Byte) (payload : Payload)
  /-- START_LOT (R184) -/
  | startLot (tag : Byte) (payload : Payload)
  /-- END_LOT (R185) -/
  | endLot (tag : Byte) (payload : Payload)
  /-- LOT_CLOSE (R185) -/
  | lotClose
  /-- SET_HOLD (R186) -/
  | setHold (tag : Byte) (payload : Payload)
  /-- CLEAR_HOLD (R187) -/
  | clearHold (tag : Byte) (payload : Payload)
  /-- HALT (R182) -/
  | halt (tag : Byte) (payload : Payload)
  /-- HALT_INPUT_ASSERTED (R182) -/
  | haltInputAsserted
  /-- HALT_INPUT_RELEASED (R183) -/
  | haltInputReleased
  /-- READ_CONDITIONS (R190) -/
  | readConditions (tag : Byte) (payload : Payload)
  /-- CLEAR_CONDITIONS (R190) -/
  | clearConditions (tag : Byte) (payload : Payload)
  /-- SET_ALERT_ENABLES (R190) -/
  | setAlertEnables (tag : Byte) (payload : Payload)
  /-- WARM_RESTART (R192) -/
  | warmRestart (tag : Byte) (payload : Payload)
  /-- LOAD_LAYOUT (R5) -/
  | loadLayout (tag : Byte) (payload : Payload)
  /-- LOAD_WIRES (R7) -/
  | loadWires (tag : Byte) (payload : Payload)
  /-- LOAD_BOND_SET (R8) -/
  | loadBondSet (tag : Byte) (payload : Payload)
  /-- LOAD_LOOP (R9) -/
  | loadLoop (tag : Byte) (payload : Payload)
  /-- LOAD_PLAN (R10) -/
  | loadPlan (tag : Byte) (payload : Payload)
  /-- LOAD_HEAD_CONFIG (R12) -/
  | loadHeadConfig (tag : Byte) (payload : Payload)
  /-- LOAD_TRACK_CONFIG (R14) -/
  | loadTrackConfig (tag : Byte) (payload : Payload)
  /-- READ_RECIPE_ITEM (R18) -/
  | readRecipeItem (tag : Byte) (payload : Payload)
  /-- CHECK_RECIPE (R17) -/
  | checkRecipe (tag : Byte) (payload : Payload)
  /-- HEAD_STATUS (R45) -/
  | headStatus (tag : Byte) (payload : Payload)
  /-- RESUME_HEAD (R44) -/
  | resumeHead (tag : Byte) (payload : Payload)
  /-- SET_CAPILLARY_COUNT (R85) -/
  | setCapillaryCount (tag : Byte) (payload : Payload)
  /-- LOAD_SPOOL (R90) -/
  | loadSpool (tag : Byte) (payload : Payload)
  /-- STRIP_MAP (R103) -/
  | stripMap (tag : Byte) (payload : Payload)
  /-- TRACK_STATUS (R116) -/
  | trackStatus (tag : Byte) (payload : Payload)
  /-- MAGAZINE_STATUS (R117) -/
  | magazineStatus (tag : Byte) (payload : Payload)
  /-- DRIVE_STATUS (R130) -/
  | driveStatus (tag : Byte) (payload : Payload)
  /-- CLASSIFY (R142) -/
  | classify (tag : Byte) (payload : Payload)
  /-- LOT_STATS (R146) -/
  | lotStats (tag : Byte) (payload : Payload)
  /-- PULL_QUEUE_STATUS (R147) -/
  | pullQueueStatus (tag : Byte) (payload : Payload)
  /-- SET_REGIONS (R159) -/
  | setRegions (tag : Byte) (payload : Payload)
  /-- REGION_STATUS (R158) -/
  | regionStatus (tag : Byte) (payload : Payload)
  /-- READ_RECORDS (R156) -/
  | readRecords (tag : Byte) (payload : Payload)
  /-- RELEASE_RECORDS (R157) -/
  | releaseRecords (tag : Byte) (payload : Payload)
  /-- SET_PANEL_TIMING (R163) -/
  | setPanelTiming (tag : Byte) (payload : Payload)
  /-- LOAD_SCREEN_BEGIN (R167): the payload after the part byte -/
  | loadScreenBegin (tag : Byte) (rest : Payload)
  /-- LOAD_SCREEN_TEXT (R167): the payload after the part byte -/
  | loadScreenText (tag : Byte) (rest : Payload)
  /-- LOAD_SCREEN_FIELDS (R168): the payload after the part byte -/
  | loadScreenFields (tag : Byte) (rest : Payload)
  /-- LOAD_SCREEN_COMMIT (R167): the payload after the part byte -/
  | loadScreenCommit (tag : Byte) (rest : Payload)
  /-- SHOW_SCREEN (R169) -/
  | showScreen (tag : Byte) (payload : Payload)
  /-- SHOW_PATTERN (R170) -/
  | showPattern (tag : Byte) (payload : Payload)
  /-- RAISE_PROMPT (R174) -/
  | raisePrompt (tag : Byte) (payload : Payload)
  /-- WITHDRAW_PROMPT (R174) -/
  | withdrawPrompt (tag : Byte) (payload : Payload)
  /-- PROMPT_STATUS (R175) -/
  | promptStatus (tag : Byte) (payload : Payload)
  /-- SET_TONE (R177) -/
  | setTone (tag : Byte) (payload : Payload)
  /-- FRAME_START (R164) -/
  | frameStart
  /-- LOCK_INPUT_CHANGE (R165): the new level -/
  | lockInputChange (locked : Bool)
  /-- KEYSWITCH_CHANGE (R176): the new level -/
  | keyswitchChange (supervisor : Bool)
  /-- PAGE_NEXT (R169) -/
  | pageNext
  /-- PAGE_PREV (R169) -/
  | pagePrev
  /-- PULL_KEY (R169) -/
  | pullKey
  /-- ACK (R173) -/
  | ack
  /-- SILENCE (R177) -/
  | silence
  /-- F_KEY (R176): 0 stands for F1, 4 for F5 -/
  | fKey (key : Fin 5)
  /-- CHIRP_TIMER_EXPIRY (R177) -/
  | chirpTimerExpiry
  /-- TONE_TOGGLE (R177) -/
  | toneToggle
  /-- CONTACT_EDGE (R28) with the Z encoder's value at the edge -/
  | contactEdge (head : HeadId) (z : BitVec 16)
  /-- CONTACT_WAIT_EXPIRY (R28) -/
  | contactWaitExpiry (head : HeadId)
  /-- POWER_SAMPLE (R51) with the generator's word -/
  | powerSample (head : HeadId) (word : Nat)
  /-- PRE_STAGE_END (R50) -/
  | preStageEnd (head : HeadId)
  /-- WELD_TIMER_EXPIRY (R30) with the Z encoder's value -/
  | weldTimerExpiry (head : HeadId) (z : BitVec 16)
  /-- CHECK_RESULT (R31) -/
  | checkResult (head : HeadId) (attached : Bool)
  /-- CHECK_TIMER_EXPIRY (R31) -/
  | checkTimerExpiry (head : HeadId)
  /-- SPARK_RESULT (R36) -/
  | sparkResult (head : HeadId) (ok : Bool)
  /-- SPARK_TIMER_EXPIRY (R36) -/
  | sparkTimerExpiry (head : HeadId)
  /-- FEED_PULSE (R86) -/
  | feedPulse (head : HeadId)
  /-- WIRE_BREAK_ASSERTED (R40) -/
  | wireBreakAsserted (head : HeadId)
  /-- WIRE_BREAK_RELEASED (R40) -/
  | wireBreakReleased (head : HeadId)
  /-- BAND_GRANT (R69) -/
  | bandGrant
  /-- WIRE_START (R25) -/
  | wireStart (head : HeadId)
  /-- FEED (R100) -/
  | feed
  /-- TRACK_SEQUENCE_START (R108) -/
  | trackSequenceStart
  /-- STORE (R113) -/
  | store
  /-- PULL_START (R135) -/
  | pullStart
  /-- DRAIN_COMPLETE (R181) -/
  | drainComplete
  /-- PREHEAT_DWELL_EXPIRY (R107) -/
  | preheatDwellExpiry
  /-- COMMAND_EXCHANGE (R122) -/
  | commandExchange
  /-- POLL (R124) -/
  | poll
  /-- STOP (R128) -/
  | stop
  /-- ATTENTION_CHANGE (R124): the drive and its new level -/
  | attentionChange (drive : Drive) (asserted : Bool)
  /-- ANSWER_CHARACTER (R122) -/
  | answerCharacter (char : LineChar)
  /-- ANSWER_WINDOW_EXPIRY (R122) -/
  | answerWindowExpiry
  /-- STATUS_FRAME_CHARACTER (R125) -/
  | statusFrameCharacter (char : LineChar)
  /-- STATUS_WINDOW_EXPIRY (R125) -/
  | statusWindowExpiry
  /-- OPERATION_TIMEOUT (R123) -/
  | operationTimeout (drive : Drive)
deriving DecidableEq, Repr

end Sys2Proof
end

