-- ==== Sys2Proof/Config.lean ====
section
/-! DEFINITION. What the part fixes: the sizes of R201, the layout's fixed column count, and the values the manual
leaves open. -/

namespace Sys2Proof.Config

open Sys2Proof

/-- Room of the receive queue (R196, R201). -/
def rxQueueSize : Nat := 4

/-- Room of the notice queue (R199, R201). -/
def noticeQueueSize : Nat := 16

/-- Room of the strip map queue (R103). -/
def stripMapSize : Nat := 8

/-- Room of the classification queue (R134, R140). -/
def classifyQueueSize : Nat := 32

/-- Number of host notes (R171, R174). -/
def hostNotes : Nat := 4

/-- Columns of the unit map, whatever the layout (R2). -/
def mapColumns : Nat := 24

/-- FEED pulses of one metre of wire (R1, R80). -/
def pulsesPerMetre : Nat := 100000

/-- Silicon revision (R201). -/
def revision : Nat := 3

/-- FREE VALUE. Whether the part reads a result or report byte other than 0 and 1 as "yes" or "present".
R120 defines only the values 0 and 1 of SEARCH's contact, SCAN's present and MAGAZINE's present.
DESIGN CHOICE, log 7. -/
opaque readsAsYes : Byte → Bool

/-! FREE VALUES of the display: what is drawn where the manual says what a part of the picture shows and not how. -/

/-- FREE VALUE. The characters that give a prompt's severity, kind and source (their codes) in the prompt area (R166).
DESIGN CHOICE, log 37. -/
opaque promptLead : Nat → Nat → Nat → List Byte

/-- FREE VALUE. The characters that give a prompt's argument in the prompt area (R166). DESIGN CHOICE, log 37. -/
opaque promptArgument : Nat → List Byte

/-- FREE VALUE. The characters that give the numbers of further ALARM, ACTION and INFO prompts (R166).
DESIGN CHOICE, log 37. -/
opaque promptCounts : Nat → Nat → Nat → List Byte

/-- FREE VALUE. What BARS shows at a pixel column that eight bars of equal whole width leave over, for a display width not
divisible by 8 (R170): the bar it continues, or none. DESIGN CHOICE, log 38. -/
opaque barLeftOver : Nat → Nat → Option Nat

/-- FREE VALUE. Whether GRID draws the last pixel column of each text cell, or the first: its lines outline the cells, so they
lie at an edge (R170). DESIGN CHOICE, log 38. -/
opaque gridAtLastColumn : Bool

/-- FREE VALUE. Whether GRID draws the last line of each text cell, or the first. DESIGN CHOICE, log 38. -/
opaque gridAtLastLine : Bool

/-- The pixel column GRID draws in each text cell of 10 columns, counted from 0 (R170). -/
def gridColumn : Nat := if gridAtLastColumn then 9 else 0

/-- The line GRID draws in each text cell of 20 lines, counted from 0 (R170). -/
def gridLine : Nat := if gridAtLastLine then 19 else 0

end Sys2Proof.Config
end

