-- ==== Sys2Proof/Machine/State.lean ====
section
/-! DEFINITION. The state of the part, block by block, as plain data, and its value right after power-on (State.reset). -/

namespace Sys2Proof.Machine

open Sys2Proof

/-! ## How a step can stop -/

/-- Faults. The part itself names none: a refused request is a reply (R198). -/
inductive Fault
  /-- Raised by a request command whose payload is longer than the 248 bytes a frame can carry (R194): no such frame
  exists. Safe: the model stops where no hardware event corresponds (log 23). -/
  | payloadTooLong
deriving DecidableEq, Repr

/-- Refusals. -/
inductive Refusal
  /-- Answered by an arm of exec whose row has no meaning yet; no arm answers it. Safe. -/
  | notModelled (mnemonic : String)
deriving DecidableEq, Repr

/-! ## Pairs -/

/-- One value for each head (R2). -/
structure PerHead (α : Type) where
  a : α
  b : α
deriving DecidableEq, Repr

/-- The value of a head. -/
@[simp] def PerHead.get {α : Type} (p : PerHead α) : HeadId → α
  | .a => p.a
  | .b => p.b

/-- The pair with one head's value replaced. -/
@[simp] def PerHead.set {α : Type} (p : PerHead α) (h : HeadId) (x : α) : PerHead α :=
  match h with
  | .a => { p with a := x }
  | .b => { p with b := x }

/-- An item of the Recipe Store with its loaded flag (R3). -/
structure Loaded (α : Type) where
  item : α
  loaded : Bool
deriving DecidableEq, Repr

/-! ## Recipe Store (chapter 1) -/

/-- Strip layout (R5). -/
structure Layout where
  rows : Nat
  cols : Nat
  px : Nat
  py : Nat
  ox : Int
  oy : Int
  wires : Nat
  a : Nat
  b : Nat
deriving DecidableEq, Repr

/-- Wire entry (R7). -/
structure WireEntry where
  x1 : Int
  y1 : Int
  z1 : Nat
  x2 : Int
  y2 : Int
  z2 : Nat
  loop : Nat
  ballSet : Nat
  stitchSet : Nat
deriving DecidableEq, Repr

/-- Bond set (R8). -/
structure BondSet where
  force : Nat
  pSet : Nat
  r : Nat
  tPre : Nat
  t : Nat
  cw : Nat
  eMin : Nat
  eMax : Nat
  dMin : Nat
  dMax : Nat
  guard : Nat
deriving DecidableEq, Repr

/-- Loop profile (R9). -/
structure LoopProfile where
  height : Nat
  reverse : Nat
  shape : Nat
deriving DecidableEq, Repr

/-- A site of the sampling plan (R10). -/
structure Site where
  row : Nat
  col : Nat
  wire : Nat
deriving DecidableEq, Repr

/-- Sampling plan (R10); the acceptance set marks mode m at bit m - 1. -/
structure Plan where
  k : Nat
  m : Nat
  q : Nat
  fMin : Nat
  accept : Byte
  sites : List Site
deriving DecidableEq, Repr

/-- Head configuration (R12). -/
structure HeadConfig where
  enabled : Bool
  pLim : Nat
  life : Nat
  gain : Nat
  liftLimit : Nat
  retries : Nat
  hx : Int
  hy : Int
  timeout : Nat
  spoolSize : Nat
  spoolLow : Nat
  spoolReserve : Nat
deriving DecidableEq, Repr

/-- Track configuration (R14). -/
structure TrackConfig where
  inSlots : Nat
  outSlots : Nat
  dwell : Nat
  setpoint : Nat
  band : Nat
  indexerTimeout : Nat
  elevatorTimeout : Nat
  pullTimeout : Nat
deriving DecidableEq, Repr

/-- The Recipe Store (R3). -/
structure RecipeStore where
  layout : Loaded Layout
  wires : Vector (Loaded WireEntry) 512
  sets : Vector (Loaded BondSet) 64
  loops : Vector (Loaded LoopProfile) 32
  plan : Plan
  heads : PerHead (Loaded HeadConfig)
  track : Loaded TrackConfig
deriving DecidableEq, Repr

/-! ## Drive operations (chapter 7) -/

/-- An operation with its arguments (R120). -/
inductive DriveOp
  | move (x y : Int)
  | search (zLimit speed : Nat)
  | loop (height reverse shape : Nat) (x y : Int)
  | tail
  | raise
  | unclamp
  | index
  | clamp
  | scan (slot : Nat)
  | push (slot : Nat)
  | store (slot : Nat)
  | pull (x y : Int)
  | setTemp (setpoint : Nat)
deriving DecidableEq, Repr

/-- How an operation ended (R119, R123); DONE carries its result bytes. -/
inductive Completion
  | done (results : List Byte)
  | fault
  | timeout
  | noAnswer
  | stopped
deriving DecidableEq, Repr

/-- Stage of a drive (R119). -/
inductive Stage | none | queued | inExchange | outstanding
deriving DecidableEq, Repr

/-- Kind of a drive's last fault (R129). -/
inductive FaultKind | none | refused | fault | timeout | noAnswer
deriving DecidableEq, Repr

/-- A drive's last fault (R129). -/
structure LastFault where
  kind : FaultKind
  op : Byte
  code : Byte
deriving DecidableEq, Repr

/-- What the DLC holds for one drive (R119, R124, R129, R130). -/
structure DriveState where
  stage : Stage
  op : Option DriveOp
  /-- cell time of ACCEPT while OUTSTANDING, else 0 -/
  acceptAt : Nat
  /-- timeout as read at ACCEPT while OUTSTANDING, else 0 -/
  timeout : Nat
  lastFault : LastFault
  attention : Bool
deriving DecidableEq, Repr

/-- The line (R122, R124, R127, R130). -/
inductive LineState
  | free
  /-- STOP being sent; the transfer ends with its checksum (R127, log 10) -/
  | stop
  /-- a command exchange with a drive; discard marks an exchange whose operation HALT has ended (R122) -/
  | command (drive : Drive) (discard : Bool)
  /-- a poll of a drive, with the status characters taken so far -/
  | poll (drive : Drive) (chars : List Byte)
deriving DecidableEq, Repr

/-- One value for each drive 1..7 (R119). -/
structure PerDrive (α : Type) where
  posA : α
  posB : α
  indexer : α
  inElevator : α
  outElevator : α
  pull : α
  workHolder : α
deriving DecidableEq, Repr

/-- The value of a drive. -/
@[simp] def PerDrive.get {α : Type} (p : PerDrive α) : Drive → α
  | .posA => p.posA
  | .posB => p.posB
  | .indexer => p.indexer
  | .inElevator => p.inElevator
  | .outElevator => p.outElevator
  | .pull => p.pull
  | .workHolder => p.workHolder

/-- The tuple with one drive's value replaced. -/
@[simp] def PerDrive.set {α : Type} (p : PerDrive α) (d : Drive) (x : α) : PerDrive α :=
  match d with
  | .posA => { p with posA := x }
  | .posB => { p with posB := x }
  | .indexer => { p with indexer := x }
  | .inElevator => { p with inElevator := x }
  | .outElevator => { p with outElevator := x }
  | .pull => { p with pull := x }
  | .workHolder => { p with workHolder := x }

/-- Drive Line Controller. -/
structure Dlc where
  queue : List Drive
  drives : PerDrive DriveState
  line : LineState
  stopPending : Bool
  /-- the characters the DLC sent last, the frame or the single character -/
  sent : List LineChar
deriving DecidableEq, Repr

/-! ## Bond heads (chapters 2, 3, 5) -/

/-- Head state (R21). -/
inductive HeadState | disabled | idle | ready | active | suspended
deriving DecidableEq, Repr

/-- Phase of a wire (2.4). -/
inductive Phase
  | move1 | search1 | weld1 | check1 | loop | search2 | weld2 | check2 | tail | spark | raise
deriving DecidableEq, Repr

/-- Waiting gate of a head (R23). -/
inductive HeadGate | mode | hold | clamp | heat | band | record
deriving DecidableEq, Repr

/-- Suspension reason (R43, R45). -/
inductive Reason | capLife | spoolEmpty | looseWire | wireBreak | noTail | drive | liftLimit
deriving DecidableEq, Repr

/-- The two bonds of a wire. -/
inductive Bond | ball | stitch
deriving DecidableEq, Repr

/-- Verdict of a bond (R55, R56). -/
inductive Verdict
  | notMade | good | searchMiss | height | lift | energyLow | energyHigh | deformLow | deformHigh | aborted
deriving DecidableEq, Repr

/-- Outcome of a wire (R61). -/
inductive WireOutcome | good | failed | aborted
deriving DecidableEq, Repr

/-- Accumulator state (R47). -/
inductive Accumulator | idle | opened | closed
deriving DecidableEq, Repr

/-- Bond capture record (R47), with the verdict and flags assigned so far (R55, R58). -/
structure Capture where
  zc : Option Nat
  sum : Nat
  received : Nat
  ze : Option Nat
  energy : Nat
  shortfall : Nat
  deform : Nat
  acc : Accumulator
  verdict : Option Verdict
  /-- the eight flags in the places of R160 -/
  flags : Byte
deriving DecidableEq, Repr

/-- The cleared capture record (R47). -/
def Capture.clear : Capture :=
  { zc := none, sum := 0, received := 0, ze := none, energy := 0, shortfall := 0, deform := 0, acc := .idle,
    verdict := none, flags := 0 }

/-- Power values of one bond, fixed at wire start (R48, R50). -/
structure Power where
  inc : Nat
  pEff : Nat
  pPre : Nat
  saturated : Bool
deriving DecidableEq, Repr

/-- A unit of a strip (R62). -/
structure UnitRef where
  strip : Nat
  row : Nat
  col : Nat
deriving DecidableEq, Repr

/-- Wire context snapshot (R25). -/
structure Snapshot where
  unit : UnitRef
  wire : Nat
  entry : WireEntry
  ballSet : BondSet
  stitchSet : BondSet
  loop : LoopProfile
  x1 : Int
  y1 : Int
  x2 : Int
  y2 : Int
  capStart : Nat
  m : Nat
  ball : Power
  stitch : Power
deriving DecidableEq, Repr

/-- How SPARK was reached (R36). -/
inductive SparkFrom | restart | tail | ballLift
deriving DecidableEq, Repr

/-- A positioner operation outstanding: its phase still waits for it, or its phase has ended (R26). -/
inductive PosOp | current | stale
deriving DecidableEq, Repr

/-- One Bond Head Controller (2.1, 5.1, R47). -/
structure Head where
  state : HeadState
  phase : Option Phase
  gate : Option HeadGate
  reason : Option Reason
  unit : Option UnitRef
  wantsBand : Bool
  wireIndex : Nat
  snapshot : Option Snapshot
  restartSpark : Bool
  failCount : Nat
  nCap : Nat
  capArmed : Bool
  spool : Nat
  spoolArmed : Bool
  wireFeed : Nat
  ball : Capture
  stitch : Capture
  lastZc : Option Nat
  lastZe : Option Nat
  sparkAttempts : Nat
  sparkFrom : Option SparkFrom
  posOp : Option PosOp
  /-- operation kept until the earlier one's completion is taken (R26) -/
  heldOp : Option DriveOp
  /-- waiting up to 5 ms for the edge after DONE with contact yes (R28) -/
  contactWait : Bool
  /-- force setpoint output -/
  force : Nat
  /-- ultrasonic stage setpoint output -/
  ultrasonic : Nat
  /-- shadow value of the ultrasonic setpoint (R50) -/
  shadow : Nat
  /-- continuity check request output -/
  checkRequest : Bool
  /-- spark request output -/
  sparkRequest : Bool
  /-- WIRE_BREAK input level -/
  wireBreak : Bool
deriving DecidableEq, Repr

/-! ## Strip Table and Unit Allocator (chapter 4) -/

/-- Station (R62). -/
inductive Station | load | preheat | bond | verify | exit
deriving DecidableEq, Repr

/-- Unit state (R65). -/
inductive UnitState | none | pending | inWork | bonded | reject | pulled | skippedIn | aborted
deriving DecidableEq, Repr

/-- Pull origin of a strip (R62). -/
inductive PullOrigin | none | plan | escalated
deriving DecidableEq, Repr

/-- Entry origin of a pull list entry (R62). -/
inductive EntryOrigin | plan | marginal | escalated
deriving DecidableEq, Repr

/-- Entry of a pull list (R62). -/
structure PullEntry where
  row : Nat
  col : Nat
  wire : Nat
  origin : EntryOrigin
deriving DecidableEq, Repr

/-- Strip record (R62). -/
structure StripRecord where
  serial : Nat
  inMag : Nat
  inSlot : Nat
  station : Station
  mapPresent : Bool
  origin : PullOrigin
  units : Vector UnitState 192
  complete : Bool
  marginalCount : Nat
  marginals : List Site
  pullList : Option (List PullEntry)
  good : Nat
  failed : Nat
  timeFed : Nat
  timeStored : Nat
  /-- output magazine and slot; none until stored -/
  out : Option (Nat × Nat)
deriving DecidableEq, Repr

/-- The STU (R62, R79). -/
structure Stu where
  strips : List StripRecord
  grant : Option HeadId
  lastHolder : Option HeadId
  request : PerHead Bool
  fed : Nat
deriving DecidableEq, Repr

/-! ## Track Controller (chapter 6) -/

/-- Clamp state (R96). -/
inductive Clamp | opened | closed | unknown
deriving DecidableEq, Repr

/-- Track sequence state (R108, R109). -/
inductive SeqState | idle | unclamp | index | clamp
deriving DecidableEq, Repr

/-- Input magazine state (6.1). -/
inductive InMagState | absent | scanning | ready | exhausted | fault
deriving DecidableEq, Repr

/-- Input slot state (6.1). -/
inductive InSlot | unknown | empty | loaded | taken | jammed
deriving DecidableEq, Repr

/-- Output magazine state (6.1). -/
inductive OutMagState | absent | ready | full
deriving DecidableEq, Repr

/-- Output slot state (6.1); FILLED carries the strip serial. -/
inductive OutSlot | unknown | empty | filled (serial : Nat) | jammed
deriving DecidableEq, Repr

/-- Input magazine. -/
structure InMag where
  state : InMagState
  number : Nat
  count : Nat
  slots : Vector InSlot 64
  /-- slot being scanned, while SCANNING -/
  scanSlot : Option Nat
deriving DecidableEq, Repr

/-- Output magazine. -/
structure OutMag where
  state : OutMagState
  number : Nat
  count : Nat
  slots : Vector OutSlot 64
deriving DecidableEq, Repr

/-- Operation outstanding at the input elevator: the running scan's, an abandoned scan's (R97, R98), or a PUSH. -/
inductive InOp | scan | staleScan | push
deriving DecidableEq, Repr

/-- Entry of the strip map queue (R103): flag of unit index i at bit i. -/
structure StripMap where
  mag : Nat
  slot : Nat
  bad : BitVec 192
deriving DecidableEq, Repr

/-- Preheat dwell (R107). -/
inductive Dwell | none | running (expiry : Nat) | done
deriving DecidableEq, Repr

/-- Heat state (R105). -/
inductive Heat | unknown | inBand | outOfBand
deriving DecidableEq, Repr

/-- Feed waiting gate (R100). -/
inductive FeedGate | mode | lot | serial | load | moving | magazine | record
deriving DecidableEq, Repr

/-- The TRC (6.1). -/
structure Trc where
  clamp : Clamp
  seq : SeqState
  seqStopped : Bool
  stopInput : Bool
  stopSequence : Bool
  stopOutput : Bool
  driveStopRaised : Bool
  inMag : InMag
  inOp : Option InOp
  /-- a first SCAN kept until the elevator's earlier operation completes (R98) -/
  scanHeld : Bool
  rescanWanted : Bool
  push : Option (Nat × Nat)
  outMag : OutMag
  store : Option (Nat × Nat)
  maps : List StripMap
  dwell : Dwell
  heat : Heat
  lastTemp : Nat
  handedOver : Bool
  pullsDone : Bool
  feedGate : Option FeedGate
  /-- SET_TEMP outstanding at the work holder (R106) -/
  setTempOut : Bool
  /-- setpoints of the SET_TEMPs that wait for that completion, oldest first (R106, log 31) -/
  setTempWaiting : List Nat
deriving DecidableEq, Repr

/-! ## Pull Station Controller (chapter 8) -/

/-- Station state (R132). -/
inductive PullState | idle | waiting | pulling | stopped
deriving DecidableEq, Repr

/-- Waiting gate (R134). -/
inductive PullGate | mode | queue | record
deriving DecidableEq, Repr

/-- Pull in flight (R135). -/
structure Flight where
  entry : PullEntry
  hookX : Int
  hookY : Int
deriving DecidableEq, Repr

/-- Staged pull record (R136); provisionalFail is the verdict FAIL, else PENDING. -/
structure Staged where
  serial : Nat
  strip : Nat
  entry : PullEntry
  force : Nat
  breakHeight : Nat
  time : Nat
  provisionalFail : Bool
deriving DecidableEq, Repr

/-- Lot pull statistics (R145). -/
structure PullStats where
  count : Nat
  pass : Nat
  fail : Nat
  noPull : Nat
  sum : Nat
  min : Nat
  max : Nat
  saturated : Bool
deriving DecidableEq, Repr

/-- The PSC (8.1). -/
structure Psc where
  state : PullState
  gate : Option PullGate
  strip : Option Nat
  listLength : Nat
  next : Nat
  flight : Option Flight
  queue : List Staged
  counter : Nat
  stats : PullStats
deriving DecidableEq, Repr

/-! ## Record Memory (chapter 9) -/

/-- The five regions (R149). -/
inductive RegionId | bondA | bondB | pull | strip | event
deriving DecidableEq, Repr

/-- What a wire record carries for one bond (R61, R160). -/
structure BondResult where
  verdict : Verdict
  flags : Byte
  energy : Nat
  deform : Nat
  zc : Nat
  pEff : Nat
  shortfall : Nat
deriving DecidableEq, Repr

/-- Wire record (R37, R160). -/
structure WireRecord where
  serial : Nat
  time : Nat
  unit : UnitRef
  wire : Nat
  head : HeadId
  outcome : WireOutcome
  ball : BondResult
  stitch : BondResult
  capStart : Nat
  length : Nat
deriving DecidableEq, Repr

/-- Verdict of a pull record (R160). -/
inductive PullVerdict | pass | fail | noPull
deriving DecidableEq, Repr

/-- Classifier (R160). -/
inductive Classifier | none | panel | host
deriving DecidableEq, Repr

/-- Pull record (R137, R141, R160); mode 0 is absent. -/
structure PullRecord where
  serial : Nat
  strip : Nat
  entry : PullEntry
  mode : Nat
  verdict : PullVerdict
  classifier : Classifier
  force : Nat
  breakHeight : Nat
  pullTime : Nat
  classifyTime : Nat
  lotNumber : Nat
deriving DecidableEq, Repr

/-- Strip summary (R78, R160): the lot id and the strip record's fields. -/
structure StripSummary where
  serial : Nat
  lotId : Nat
  record : StripRecord
deriving DecidableEq, Repr

/-- Event codes (R161). -/
inductive EventCode
  | modeChange | holdSet | holdCleared | haltEntered | lotStart | lotEnd | headSuspended | headResumed | capChanged
  | spoolLoaded | magInLoaded | magInRemoved | magOutFull | magOutReplaced | driveTimeout | driveFault | lateReply
  | tempOut | tempIn | promptAck
deriving DecidableEq, Repr

/-- Event record (R154, R160). -/
structure EventRecord where
  serial : Nat
  time : Nat
  code : EventCode
  source : Nat
  arg : Nat
  lost : Nat
deriving DecidableEq, Repr

/-- A record of any region. -/
inductive Record
  | wire (r : WireRecord)
  | pull (r : PullRecord)
  | strip (r : StripSummary)
  | event (r : EventRecord)
deriving DecidableEq, Repr

/-- A region (R149); records oldest first. -/
structure Region where
  first : Nat
  last : Nat
  watermark : Nat
  records : List Record
  reserved : Nat
  above : Bool
  waiting : Bool
  nextSerial : Nat
  lost : Nat
deriving DecidableEq, Repr

/-- The RM. -/
structure Rm where
  bondA : Region
  bondB : Region
  pull : Region
  strip : Region
  event : Region
deriving DecidableEq, Repr

/-- A region of the RM. -/
@[simp] def Rm.get (r : Rm) : RegionId → Region
  | .bondA => r.bondA
  | .bondB => r.bondB
  | .pull => r.pull
  | .strip => r.strip
  | .event => r.event

/-- The RM with one region replaced. -/
@[simp] def Rm.set (r : Rm) (i : RegionId) (x : Region) : Rm :=
  match i with
  | .bondA => { r with bondA := x }
  | .bondB => { r with bondB := x }
  | .pull => { r with pull := x }
  | .strip => { r with strip := x }
  | .event => { r with event := x }

/-! ## Operator panel (chapter 10) -/

/-- Display timing (R163). -/
structure Timing where
  hActive : Nat
  hSync : Nat
  hBack : Nat
  hFront : Nat
  vActive : Nat
  vSync : Nat
  vBack : Nat
  vFront : Nat
  /-- bit 0 positive hsync, bit 1 positive vsync -/
  polarity : Nat
  rate : Nat
deriving DecidableEq, Repr

/-- A field of a screen (R168); format 1 DEC, 2 STATE, 3 BAR. -/
structure ScreenField where
  row : Nat
  col : Nat
  width : Nat
  var : Nat
  format : Nat
deriving DecidableEq, Repr

/-- Screen template: 80 columns by 30 rows (R166, R167), cell (r, c) at (r - 1) × 80 + (c - 1). -/
structure Template where
  keysToHost : Bool
  cells : Vector Byte 2400
  fields : List ScreenField
deriving DecidableEq, Repr

/-- Test patterns (R170). -/
inductive Pattern | bars | grid | flat
deriving DecidableEq, Repr

/-- What a selection other than a pattern shows (R169). -/
inductive View
  | slot (n : Nat)
  | classify
deriving DecidableEq, Repr

/-- The selection (R169, R170); a pattern remembers the selection to return to. -/
inductive Selection
  | view (v : View)
  | pattern (p : Pattern) (back : View)
deriving DecidableEq, Repr

/-- Prompt severities (R171). -/
inductive Severity | alarm | action | info
deriving DecidableEq, Repr

/-- Prompt kinds (R172). -/
inductive PromptKind
  | haltActive | qualityHold | headStop | driveStop | trackCheck | inputChange | outputChange | tempOut
  | classifyPending | capWarning | spoolLow | hostNote
deriving DecidableEq, Repr

/-- A prompt (R171). -/
structure Prompt where
  kind : PromptKind
  source : Nat
  severity : Severity
  arg : Nat
  raiseNo : Nat
  time : Nat
  text : List Byte
deriving DecidableEq, Repr

/-- A visible cell of the display: a character, or the solid block of a bar (R168). -/
inductive DisplayCell
  | char (c : Byte)
  | block
deriving DecidableEq, Repr

/-- Cell mode (R179). -/
inductive Mode | setup | run | drain | halt
deriving DecidableEq, Repr

/-- Lot state (R184). -/
inductive LotState | none | opened | closing
deriving DecidableEq, Repr

/-- Cause of the quality hold (R186). -/
inductive HoldCause
  | pull (serial : Nat)
  | host
deriving DecidableEq, Repr

/-- What the built-in status screen shows of one head (R167). -/
structure HeadSummary where
  state : HeadState
  gate : Option HeadGate
  reason : Option Reason
  nCap : Nat
deriving DecidableEq, Repr

/-- What the built-in status screen shows (R167). -/
structure StatusScreen where
  mode : Mode
  lot : LotState
  lotId : Nat
  hold : Option HoldCause
  heads : PerHead HeadSummary
  /-- strip serial at LOAD, PREHEAT, BOND, VERIFY, EXIT; 0 when empty -/
  stations : List Nat
  heat : Heat
  classifyCount : Nat
  supervisor : Bool
deriving DecidableEq, Repr

/-- A key of the classification view and the mode it gives (R143, R169). -/
structure ClassifyKey where
  /-- 1 to 5 for F1 to F5 -/
  key : Nat
  mode : Nat
  name : List Byte
deriving DecidableEq, Repr

/-- What a pixel of a test pattern shows (R170). -/
inductive Pixel
  | dark
  /-- full level -/
  | full
  /-- the level of one of the eight bars, 1 at the left; R170 gives the bars no level of their own -/
  | bar (n : Nat)
deriving DecidableEq, Repr

/-- The image of a test pattern (R170). -/
inductive PatternImage
  /-- the pixels of a line, the same in every line -/
  | bars (line : List Pixel)
  /-- the pixel columns and the lines that are drawn, counted from 0; every other pixel is dark -/
  | grid (columns lines : List Nat)
  | flat
deriving DecidableEq, Repr

/-- The main picture of a frame. -/
inductive Picture
  /-- a loaded template with its fields drawn: visible rows above the prompt area, each of the visible columns (R166) -/
  | screen (cells : List (List DisplayCell))
  | status (s : StatusScreen)
  /-- the oldest record of the classification queue, none when empty, the queue count and the modes of F1 to F5 (R169) -/
  | classify (oldest : Option Staged) (count : Nat) (keys : List ClassifyKey)
  /-- a test pattern over the whole display of width × height pixels (R170) -/
  | pattern (width height : Nat) (image : PatternImage)
deriving DecidableEq, Repr

/-- The prompt area (R166): the top prompt, the number of further prompts of each severity, and the cells of its two rows. -/
structure PromptArea where
  top : Option Prompt
  furtherAlarm : Nat
  furtherAction : Nat
  furtherInfo : Nat
  first : List DisplayCell
  second : List DisplayCell
deriving DecidableEq, Repr

/-- A rendered frame (R164); a pattern covers the prompt area (R170). -/
structure DisplayFrame where
  columns : Nat
  rows : Nat
  picture : Picture
  prompts : Option PromptArea
deriving DecidableEq, Repr

/-- The PNC. -/
structure Pnc where
  timing : Timing
  pendingTiming : Option Timing
  locked : Bool
  supervisor : Bool
  /-- slots 0..7; slot 0 with none shows the built-in status screen -/
  slots : Vector (Option Template) 8
  build : Option (Nat × Template)
  selection : Selection
  lastSlot : Nat
  latched : Option Nat
  prompts : List Prompt
  nextRaise : Nat
  h : Nat
  /-- half-period in use while the tone sounds; none when the half-period timer is stopped -/
  toneTimer : Option Nat
  toneHigh : Bool
  silenced : Bool
  chirp : Bool
  frame : Option DisplayFrame
deriving DecidableEq, Repr

/-! ## Cell Mode Controller (chapter 11) -/

/-- The 22 sticky conditions in id order (R189). -/
inductive Condition
  | resetSeen | linkCrc | linkFraming | linkOverrun | noticeLost | haltEntered | holdSet | headAStopped | headBStopped
  | driveTimeout | driveFault | driveLineError | tempOut | inputExhausted | outputFull | regionStall | eventOverwrite
  | classifyBacklog | panelUnlocked | capWarning | spoolLow | lateReply
deriving DecidableEq, Repr

/-- The CMC. -/
structure Cmc where
  mode : Mode
  cause : Nat
  lot : LotState
  lotId : Nat
  hold : Option HoldCause
  trackCheck : Bool
  conditions : BitVec 22
  enables : BitVec 22
  haltInput : Bool
  cellTime : Nat
deriving DecidableEq, Repr

/-! ## Station Link Interface (chapter 12) -/

/-- A frame without its start byte, LEN and CRC (R194). -/
structure Frame where
  code : Byte
  tag : Byte
  payload : Payload
deriving DecidableEq, Repr

/-- Notices (R200). -/
inductive Notice
  | started (warm : Bool) (fast : Bool)
  | condition (id : Nat) (set : BitVec 22)
  | mode (new old : Mode) (cause : Nat)
  | hold (state cause serial : Nat)
  | head (head : HeadId) (state : HeadState) (reason : Option Reason)
  | strip (stored : Bool) (serial mag slot : Nat)
  | watermark (region : RegionId) (committed watermark : Nat)
  | prompt (removed : Bool) (kind : PromptKind) (source : Nat) (severity : Severity) (arg count : Nat)
  | key (key slot : Nat)
  | lot (state : LotState) (id : Nat)
deriving DecidableEq, Repr

/-- Receiver (R195). -/
inductive Receiver
  | hunt
  | length
  | body (len : Nat) (bytes : List Byte)
  | crc (len : Nat) (bytes : List Byte) (first : Option Byte)
deriving DecidableEq, Repr

/-- The frame the transmitter is sending. -/
inductive Sending
  | reply (f : Frame)
  | notice (n : Notice)
deriving DecidableEq, Repr

/-- A warm restart on its way (R192): taken and its reply not yet sent, or the reply sent and the reset due. -/
inductive Restart | no | replyPending | due
deriving DecidableEq, Repr

/-- The SLI. -/
structure Link where
  fast : Bool
  rx : Receiver
  rxQueue : List Frame
  reply : Option Frame
  notices : List Notice
  tx : Option Sending
  restart : Restart
deriving DecidableEq, Repr

/-! ## The whole part -/

/-- The state of the part and the queue of waiting commands. -/
structure State where
  cmc : Cmc
  rs : RecipeStore
  heads : PerHead Head
  stu : Stu
  trc : Trc
  dlc : Dlc
  psc : Psc
  rm : Rm
  pnc : Pnc
  link : Link
  pending : List Instr
deriving DecidableEq, Repr

/-! ## Values after power-on -/

/-- R20: zeros, flag clear. -/
def Layout.zero : Layout := { rows := 0, cols := 0, px := 0, py := 0, ox := 0, oy := 0, wires := 0, a := 0, b := 0 }

/-- R5, R20. -/
def WireEntry.zero : WireEntry :=
  { x1 := 0, y1 := 0, z1 := 0, x2 := 0, y2 := 0, z2 := 0, loop := 0, ballSet := 0, stitchSet := 0 }

/-- R20. -/
def BondSet.zero : BondSet :=
  { force := 0, pSet := 0, r := 0, tPre := 0, t := 0, cw := 0, eMin := 0, eMax := 0, dMin := 0, dMax := 0, guard := 0 }

/-- R20. -/
def LoopProfile.zero : LoopProfile := { height := 0, reverse := 0, shape := 0 }

/-- R20: acceptance set NECK, SPAN, HEEL (modes 2, 3, 4). -/
def Plan.powerOn : Plan := { k := 0, m := 0, q := 0, fMin := 0, accept := 0b01110, sites := [] }

/-- R20. -/
def HeadConfig.powerOn : HeadConfig :=
  { enabled := true, pLim := 1000, life := 1000000, gain := 0, liftLimit := 3, retries := 1, hx := 0, hy := 0,
    timeout := 500, spoolSize := 500, spoolLow := 20, spoolReserve := 2 }

/-- R20. -/
def TrackConfig.powerOn : TrackConfig :=
  { inSlots := 20, outSlots := 20, dwell := 3000, setpoint := 1500, band := 50, indexerTimeout := 1000,
    elevatorTimeout := 2000, pullTimeout := 2000 }

/-- R20. -/
def RecipeStore.powerOn : RecipeStore :=
  { layout := ⟨.zero, false⟩
    wires := Vector.replicate 512 ⟨.zero, false⟩
    sets := Vector.replicate 64 ⟨.zero, false⟩
    loops := Vector.replicate 32 ⟨.zero, false⟩
    plan := .powerOn
    heads := ⟨⟨.powerOn, false⟩, ⟨.powerOn, false⟩⟩
    track := ⟨.powerOn, false⟩ }

/-- R46, R47, R95: a head after power-on with the default configuration and its WIRE_BREAK input released. -/
def Head.powerOn : Head :=
  { state := .idle, phase := none, gate := none, reason := none, unit := none, wantsBand := false, wireIndex := 0,
    snapshot := none, restartSpark := true, failCount := 0, nCap := 0, capArmed := true, spool := 50000000,
    spoolArmed := true, wireFeed := 0, ball := .clear, stitch := .clear, lastZc := none, lastZe := none,
    sparkAttempts := 0, sparkFrom := none, posOp := none, heldOp := none, contactWait := false, force := 0,
    ultrasonic := 0, shadow := 0, checkRequest := false, sparkRequest := false, wireBreak := false }

/-- R79. -/
def Stu.powerOn : Stu := { strips := [], grant := none, lastHolder := none, request := ⟨false, false⟩, fed := 0 }

/-- R118. -/
def Trc.powerOn : Trc :=
  { clamp := .unknown, seq := .idle, seqStopped := false, stopInput := false, stopSequence := false,
    stopOutput := false, driveStopRaised := false,
    inMag := { state := .absent, number := 0, count := 20, slots := Vector.replicate 64 .unknown, scanSlot := none }
    inOp := none, scanHeld := false, rescanWanted := false, push := none,
    outMag := { state := .absent, number := 0, count := 20, slots := Vector.replicate 64 .unknown }
    store := none, maps := [], dwell := .none, heat := .unknown, lastTemp := 0, handedOver := false,
    pullsDone := false, feedGate := none, setTempOut := false, setTempWaiting := [] }

/-- R129, R131: a drive with its attention input released. -/
def DriveState.idle : DriveState :=
  { stage := .none, op := none, acceptAt := 0, timeout := 0, lastFault := ⟨.none, 0, 0⟩, attention := false }

/-- R131: STOP is pending after either reset. -/
def Dlc.powerOn : Dlc :=
  { queue := [], drives := ⟨.idle, .idle, .idle, .idle, .idle, .idle, .idle⟩, line := .free, stopPending := true,
    sent := [] }

/-- R145, R148. -/
def PullStats.zero : PullStats :=
  { count := 0, pass := 0, fail := 0, noPull := 0, sum := 0, min := 0, max := 0, saturated := false }

/-- R148. -/
def Psc.powerOn : Psc :=
  { state := .idle, gate := none, strip := none, listLength := 0, next := 0, flight := none, queue := [], counter := 0,
    stats := .zero }

/-- R159, R162: an empty region with given bounds. -/
def Region.empty (first last watermark : Nat) : Region :=
  { first := first, last := last, watermark := watermark, records := [], reserved := 0, above := false,
    waiting := false, nextSerial := 1, lost := 0 }

/-- R149: the power-on blocks. -/
def Rm.powerOn : Rm :=
  { bondA := .empty 0 19 0, bondB := .empty 20 39 0, pull := .empty 40 47 0, strip := .empty 48 55 0,
    event := .empty 56 63 0 }

/-- R178: both polarities negative, rate class 1. -/
def Timing.powerOn : Timing :=
  { hActive := 800, hSync := 48, hBack := 40, hFront := 40, vActive := 480, vSync := 3, vBack := 29, vFront := 13,
    polarity := 0, rate := 1 }

/-- R178, before any prompt is raised. -/
def Pnc.powerOn : Pnc :=
  { timing := .powerOn, pendingTiming := none, locked := false, supervisor := false,
    slots := Vector.replicate 8 none, build := none, selection := .view (.slot 0), lastSlot := 0, latched := none,
    prompts := [], nextRaise := 1, h := 250, toneTimer := none, toneHigh := false, silenced := false, chirp := false,
    frame := none }

/-- R193: RESET_SEEN (bit 0) and PANEL_UNLOCKED (bit 18) set, HALT input released. -/
def Cmc.powerOn : Cmc :=
  { mode := .setup, cause := 0, lot := .none, lotId := 0, hold := none, trackCheck := false,
    conditions := 0x40001, enables := 0, haltInput := false, cellTime := 0 }

/-- R203 at 115,200 baud: STARTED alone in the notice queue. -/
def Link.powerOn : Link :=
  { fast := false, rx := .hunt, rxQueue := [], reply := none, notices := [.started false false], tx := none,
    restart := .no }

/-- The part right after power-on with every input released, the display unlocked, the keyswitch at OPERATOR and the strap
at 115,200 baud (DESIGN CHOICE, log 5). TRACK_CHECK has been raised (R193), and its PROMPT notice stands behind STARTED
(R178, R203); the transmitter is IDLE (R203). -/
def State.reset : State :=
  { cmc := .powerOn
    rs := .powerOn
    heads := ⟨.powerOn, .powerOn⟩
    stu := .powerOn
    trc := .powerOn
    dlc := .powerOn
    psc := .powerOn
    rm := .powerOn
    pnc :=
      { Pnc.powerOn with
        prompts :=
          [{ kind := .trackCheck, source := 0, severity := .action, arg := 0, raiseNo := 1, time := 0, text := [] }]
        nextRaise := 2 }
    link :=
      { Link.powerOn with
        notices := [.started false false, .prompt false .trackCheck 0 .action 0 1] }
    pending := [] }

end Sys2Proof.Machine
end

