-- ==== Sys2Proof/Machine/Operands.lean ====
section
/-! DEFINITION. Operand forms: numbers in bytes, payload fields with their ranges, reply payloads, code numbers, frames of
the Station Link with their CRC, and frames of the Drive Line with their checksum. -/

namespace Sys2Proof.Machine

open Sys2Proof

/-! ## Numbers in bytes: high byte first (R2) -/

/-- n bytes of a number, high byte first; the number is taken modulo 256^n. -/
def beBytes : Nat → Nat → List Byte
  | 0, _ => []
  | n + 1, v => BitVec.ofNat 8 (v / 256 ^ n) :: beBytes n v

/-- n bytes of a signed number in two's complement, high byte first. -/
def intBytes (n : Nat) (v : Int) : List Byte := beBytes n (v % (256 ^ n : Nat)).toNat

/-- The unsigned number in bytes, high byte first. -/
def beNat (bs : List Byte) : Nat := bs.foldl (fun acc b => acc * 256 + b.toNat) 0

/-- The two's complement number in bytes, high byte first. -/
def beInt (bs : List Byte) : Int :=
  if 2 * beNat bs < 256 ^ bs.length then (beNat bs : Int) else (beNat bs : Int) - (256 ^ bs.length : Nat)

/-- A value brought into signed 32-bit arithmetic (R2). -/
def wrap32 (v : Int) : Int := (BitVec.ofInt 32 v).toInt

/-- One byte. -/
def byte (n : Nat) : Byte := BitVec.ofNat 8 n

/-- One byte, 0 no and 1 yes. -/
def boolByte (b : Bool) : Byte := if b then 1 else 0

/-! ## Payload fields (R4) -/

/-- A field of a request payload: its size, sign, range, and the number it must be a multiple of. -/
structure FieldSpec where
  bytes : Nat
  lo : Int
  hi : Int
  signed : Bool := false
  multiple : Nat := 1
deriving DecidableEq, Repr

/-- Bytes taken by a list of fields. -/
def fieldsLength (fs : List FieldSpec) : Nat := fs.foldl (fun n f => n + f.bytes) 0

/-- The values of the fields, in payload order. -/
def fieldValues : List FieldSpec → Payload → List Int
  | [], _ => []
  | f :: fs, p =>
    (if f.signed then beInt (p.take f.bytes) else (beNat (p.take f.bytes) : Int)) :: fieldValues fs (p.drop f.bytes)

/-- A value inside its field's range. -/
def FieldSpec.admits (f : FieldSpec) (v : Int) : Bool :=
  decide (f.lo ≤ v) && decide (v ≤ f.hi) && decide (v % (f.multiple : Int) = 0)

/-- The number of the first field out of range, counted from n (R4, stage 4). -/
def firstBad : List FieldSpec → List Int → Nat → Option Nat
  | f :: fs, v :: vs, n => if f.admits v then firstBad fs vs (n + 1) else some n
  | _, _, _ => none

/-- The fields' bytes as they read back (R18). -/
def fieldBytes : List FieldSpec → List Int → List Byte
  | f :: fs, v :: vs => intBytes f.bytes v ++ fieldBytes fs vs
  | _, _ => []

/-- The value of field n, counting from 1. -/
def fieldAt (vs : List Int) (n : Nat) : Int := vs.getD (n - 1) 0

/-- The unsigned value of field n, counting from 1. -/
def fieldNat (vs : List Int) (n : Nat) : Nat := (fieldAt vs n).toNat

/-! ## Replies (R198) -/

/-- Reply status. -/
inductive Status
  | ok | unknownCode | badLength | badValue | wrongMode | notLoaded | noSuch | held | conflict | trackOccupied | full
deriving DecidableEq, Repr

/-- Status byte (R198). -/
def Status.code : Status → Byte
  | .ok => 0x00
  | .unknownCode => 0x01
  | .badLength => 0x02
  | .badValue => 0x03
  | .wrongMode => 0x04
  | .notLoaded => 0x05
  | .noSuch => 0x06
  | .held => 0x07
  | .conflict => 0x08
  | .trackOccupied => 0x09
  | .full => 0x0A

/-- The payload of a reply with status OK: the status and the content, no detail byte. -/
def replyOk (content : List Byte) : Payload := Status.ok.code :: content

/-- The payload of a refusal: the status, one detail byte, and what the rule adds after it. -/
def refusal (st : Status) (detail : Nat) (extra : List Byte := []) : Payload := st.code :: byte detail :: extra

/-! ## Code numbers -/

/-- R179. -/
def Mode.code : Mode → Nat
  | .setup => 0
  | .run => 1
  | .drain => 2
  | .halt => 3

/-- R191. -/
def LotState.code : LotState → Nat
  | .none => 0
  | .opened => 1
  | .closing => 2

/-- R45. -/
def HeadState.code : HeadState → Nat
  | .disabled => 0
  | .idle => 1
  | .ready => 2
  | .active => 3
  | .suspended => 4

/-- R45; 0 is none. -/
def Phase.code : Option Phase → Nat
  | none => 0
  | some .move1 => 1
  | some .search1 => 2
  | some .weld1 => 3
  | some .check1 => 4
  | some .loop => 5
  | some .search2 => 6
  | some .weld2 => 7
  | some .check2 => 8
  | some .tail => 9
  | some .spark => 10
  | some .raise => 11

/-- R45; 0 is none. -/
def HeadGate.code : Option HeadGate → Nat
  | none => 0
  | some .mode => 1
  | some .hold => 2
  | some .clamp => 3
  | some .heat => 4
  | some .band => 5
  | some .record => 6

/-- R45. -/
def Reason.code : Reason → Nat
  | .capLife => 1
  | .spoolEmpty => 2
  | .looseWire => 3
  | .wireBreak => 4
  | .noTail => 5
  | .drive => 6
  | .liftLimit => 7

/-- R45; 0 is none. -/
def Reason.codeOpt : Option Reason → Nat
  | none => 0
  | some r => r.code

/-- Head A is 1 and head B is 2 (R44, R160). -/
def headNo : HeadId → Nat
  | .a => 1
  | .b => 2

/-- The head a number names (R44). -/
def headOf : Nat → Option HeadId
  | 1 => some .a
  | 2 => some .b
  | _ => none

/-- Drive address (R119). -/
def driveAddress : Drive → Nat
  | .posA => 1
  | .posB => 2
  | .indexer => 3
  | .inElevator => 4
  | .outElevator => 5
  | .pull => 6
  | .workHolder => 7

/-- The drives in address order. -/
def allDrives : List Drive := [.posA, .posB, .indexer, .inElevator, .outElevator, .pull, .workHolder]

/-- The drive of a head's positioner (R119). -/
def positioner : HeadId → Drive
  | .a => .posA
  | .b => .posB

/-- R130. -/
def Stage.code : Stage → Nat
  | .none => 0
  | .queued => 1
  | .inExchange => 2
  | .outstanding => 3

/-- R129. -/
def FaultKind.code : FaultKind → Nat
  | .none => 0
  | .refused => 1
  | .fault => 2
  | .timeout => 3
  | .noAnswer => 4

/-- R56. -/
def Verdict.code : Verdict → Nat
  | .notMade => 0
  | .good => 1
  | .searchMiss => 2
  | .height => 3
  | .lift => 4
  | .energyLow => 5
  | .energyHigh => 6
  | .deformLow => 7
  | .deformHigh => 8
  | .aborted => 9

/-- R160. -/
def WireOutcome.code : WireOutcome → Nat
  | .good => 1
  | .failed => 2
  | .aborted => 3

/-- R65. -/
def UnitState.code : UnitState → Nat
  | .none => 0
  | .pending => 1
  | .inWork => 2
  | .bonded => 3
  | .reject => 4
  | .pulled => 5
  | .skippedIn => 6
  | .aborted => 7

/-- R160. -/
def PullOrigin.code : PullOrigin → Nat
  | .none => 0
  | .plan => 1
  | .escalated => 2

/-- R147, R160. -/
def EntryOrigin.code : EntryOrigin → Nat
  | .plan => 1
  | .marginal => 2
  | .escalated => 3

/-- R160. -/
def PullVerdict.code : PullVerdict → Nat
  | .pass => 1
  | .fail => 2
  | .noPull => 3

/-- R160. -/
def Classifier.code : Classifier → Nat
  | .none => 0
  | .panel => 1
  | .host => 2

/-- R149. -/
def RegionId.code : RegionId → Nat
  | .bondA => 1
  | .bondB => 2
  | .pull => 3
  | .strip => 4
  | .event => 5

/-- The region a code names (R149). -/
def regionOf : Nat → Option RegionId
  | 1 => some .bondA
  | 2 => some .bondB
  | 3 => some .pull
  | 4 => some .strip
  | 5 => some .event
  | _ => none

/-- The regions in code order. -/
def allRegions : List RegionId := [.bondA, .bondB, .pull, .strip, .event]

/-- The bond region of a head (R149). -/
def bondRegion : HeadId → RegionId
  | .a => .bondA
  | .b => .bondB

/-- R161. -/
def EventCode.code : EventCode → Nat
  | .modeChange => 1
  | .holdSet => 2
  | .holdCleared => 3
  | .haltEntered => 4
  | .lotStart => 5
  | .lotEnd => 6
  | .headSuspended => 7
  | .headResumed => 8
  | .capChanged => 9
  | .spoolLoaded => 10
  | .magInLoaded => 11
  | .magInRemoved => 12
  | .magOutFull => 13
  | .magOutReplaced => 14
  | .driveTimeout => 15
  | .driveFault => 16
  | .lateReply => 17
  | .tempOut => 18
  | .tempIn => 19
  | .promptAck => 20

/-- Source byte of the CMC (R161). -/
def sourceCmc : Nat := 16
/-- Source byte of a head (R161). -/
def sourceHead : HeadId → Nat
  | .a => 17
  | .b => 18
/-- Source byte of the TRC (R161). -/
def sourceTrc : Nat := 19
/-- Source byte of the PNC (R161). -/
def sourcePnc : Nat := 21

/-- An event argument from its upper, second, third and lowest byte (R161). -/
def argBytes (upper second third lowest : Nat) : Nat :=
  ((upper % 256 * 256 + second % 256) * 256 + third % 256) * 256 + lowest % 256

/-- An event argument with one number in the upper two bytes and one in the lower two (R97, R98, R112). -/
def argHalves (upper lower : Nat) : Nat := upper % 65536 * 65536 + lower % 65536

/-- R172. -/
def PromptKind.code : PromptKind → Nat
  | .haltActive => 1
  | .qualityHold => 2
  | .headStop => 3
  | .driveStop => 4
  | .trackCheck => 5
  | .inputChange => 6
  | .outputChange => 7
  | .tempOut => 8
  | .classifyPending => 9
  | .capWarning => 10
  | .spoolLow => 11
  | .hostNote => 12

/-- R172: the severity of a kind; a HOST_NOTE's is the host's choice, and this gives INFO for it. -/
def PromptKind.severity : PromptKind → Severity
  | .haltActive | .qualityHold | .headStop | .driveStop => .alarm
  | .trackCheck | .inputChange | .outputChange | .tempOut => .action
  | .classifyPending | .capWarning | .spoolLow | .hostNote => .info

/-- R174, R175. -/
def Severity.code : Severity → Nat
  | .alarm => 1
  | .action => 2
  | .info => 3

/-- The severity a number names (R174). -/
def severityOf : Nat → Option Severity
  | 1 => some .alarm
  | 2 => some .action
  | 3 => some .info
  | _ => none

/-- Condition id (R189). -/
def Condition.id : Condition → Nat
  | .resetSeen => 0
  | .linkCrc => 1
  | .linkFraming => 2
  | .linkOverrun => 3
  | .noticeLost => 4
  | .haltEntered => 5
  | .holdSet => 6
  | .headAStopped => 7
  | .headBStopped => 8
  | .driveTimeout => 9
  | .driveFault => 10
  | .driveLineError => 11
  | .tempOut => 12
  | .inputExhausted => 13
  | .outputFull => 14
  | .regionStall => 15
  | .eventOverwrite => 16
  | .classifyBacklog => 17
  | .panelUnlocked => 18
  | .capWarning => 19
  | .spoolLow => 20
  | .lateReply => 21

/-- The conditions in id order. -/
def allConditions : List Condition :=
  [.resetSeen, .linkCrc, .linkFraming, .linkOverrun, .noticeLost, .haltEntered, .holdSet, .headAStopped, .headBStopped,
   .driveTimeout, .driveFault, .driveLineError, .tempOut, .inputExhausted, .outputFull, .regionStall, .eventOverwrite,
   .classifyBacklog, .panelUnlocked, .capWarning, .spoolLow, .lateReply]

/-- A condition mask as four bytes; bits 22 to 31 are 0 (R189). -/
def maskBytes (m : BitVec 22) : List Byte := beBytes 4 m.toNat

/-! ## Frames of the Station Link (R194) -/

/-- One bit of the CRC: generator x^16 + x^12 + x^5 + 1, most significant bit first. -/
def crcBit (c : BitVec 16) : BitVec 16 := if c.msb then (c <<< 1) ^^^ 0x1021#16 else c <<< 1

/-- One byte of the CRC. -/
def crcByte (c : BitVec 16) (b : Byte) : BitVec 16 :=
  crcBit (crcBit (crcBit (crcBit (crcBit (crcBit (crcBit (crcBit (c ^^^ (b.setWidth 16 <<< 8)))))))))

/-- The CRC over bytes, from 0xFFFF, not reflected and not inverted. -/
def crc16 (bs : List Byte) : BitVec 16 := bs.foldl crcByte 0xFFFF#16

/-- LEN and body of a frame: LEN, CODE, TAG and payload, over which the CRC runs. -/
def Frame.lenBody (f : Frame) : List Byte := byte (2 + f.payload.length) :: f.code :: f.tag :: f.payload

/-- A frame as sent: start byte, LEN, body, CRC high byte first. -/
def Frame.bytes (f : Frame) : List Byte := 0xA5#8 :: (f.lenBody ++ beBytes 2 (crc16 f.lenBody).toNat)

/-- The frame with a given body; a body has at least CODE and TAG. -/
def frameOfBody : List Byte → Frame
  | code :: tag :: payload => { code := code, tag := tag, payload := payload }
  | [code] => { code := code, tag := 0, payload := [] }
  | [] => { code := 0, tag := 0, payload := [] }

/-- A notice as a frame (R200); its TAG is 0 (R194). -/
def Notice.frame : Notice → Frame
  | .started warm fast => ⟨0x80, 0, [if warm then 2 else 1, byte Config.revision, boolByte fast]⟩
  | .condition id set => ⟨0x81, 0, byte id :: maskBytes set⟩
  | .mode new old cause => ⟨0x82, 0, [byte new.code, byte old.code, byte cause]⟩
  | .hold state cause serial => ⟨0x83, 0, byte state :: byte cause :: beBytes 4 serial⟩
  | .head h state reason => ⟨0x84, 0, [byte (headNo h), byte state.code, byte (Reason.codeOpt reason)]⟩
  | .strip stored serial mag slot => ⟨0x85, 0, (if stored then 2 else 1) :: beBytes 2 serial ++ [byte mag, byte slot]⟩
  | .watermark r committed w => ⟨0x86, 0, byte r.code :: beBytes 2 committed ++ beBytes 2 w⟩
  | .prompt removed kind source severity arg count =>
    ⟨0x87, 0, [if removed then 2 else 1, byte kind.code, byte source, byte severity.code, byte arg, byte count]⟩
  | .key k slot => ⟨0x88, 0, [byte k, byte slot]⟩
  | .lot state id => ⟨0x89, 0, byte state.code :: beBytes 4 id⟩

/-- The bytes of the frame being sent. -/
def Sending.bytes : Sending → List Byte
  | .reply f => f.bytes
  | .notice n => n.frame.bytes

/-! ## Frames of the Drive Line (R120, R121) -/

/-- Op code of an operation (R120). -/
def DriveOp.code : DriveOp → Byte
  | .move _ _ => 0x10
  | .search _ _ => 0x11
  | .loop _ _ _ _ _ => 0x12
  | .tail => 0x13
  | .raise => 0x14
  | .unclamp => 0x20
  | .index => 0x21
  | .clamp => 0x22
  | .scan _ => 0x30
  | .push _ => 0x31
  | .store _ => 0x38
  | .pull _ _ => 0x40
  | .setTemp _ => 0x50

/-- Argument bytes of an operation (R120). -/
def DriveOp.args : DriveOp → List Byte
  | .move x y => intBytes 4 x ++ intBytes 4 y
  | .search z speed => beBytes 2 z ++ [byte speed]
  | .loop h r shape x y => beBytes 2 h ++ beBytes 2 r ++ [byte shape] ++ intBytes 4 x ++ intBytes 4 y
  | .tail | .raise | .unclamp | .index | .clamp => []
  | .scan slot | .push slot | .store slot => [byte slot]
  | .pull x y => intBytes 4 x ++ intBytes 4 y
  | .setTemp t => beBytes 2 t

/-- Result length of a DONE for an op (R120); none for a code that is no operation, whose DONE no length fits (log 44). -/
def resultLength (op : Byte) : Option Nat :=
  if op = 0x11 ∨ op = 0x30 then some 1
  else if op = 0x40 then some 4
  else if op = 0x10 ∨ op = 0x12 ∨ op = 0x13 ∨ op = 0x14 ∨ op = 0x20 ∨ op = 0x21 ∨ op = 0x22 ∨ op = 0x31 ∨ op = 0x38 ∨
      op = 0x50 then some 0
  else none

/-- A yes or present byte of a result or report: 0 no, 1 yes, any other value is open (R120, log 7). -/
def readsYes (v : Byte) : Bool := if v = 0 then false else if v = 1 then true else Config.readsAsYes v

/-- Sum of bytes modulo 256. -/
def byteSum (bs : List Byte) : Byte := bs.foldl (· + ·) 0

/-- An address character (R121). -/
def addressChar (a : Nat) : LineChar := 0x100#9 ||| (byte a).setWidth 9

/-- A data character (R121). -/
def dataChar (b : Byte) : LineChar := b.setWidth 9

/-- The data characters of a command: op, length, arguments, checksum. -/
def commandBody (op : Byte) (args : List Byte) : List Byte :=
  let body := op :: byte args.length :: args
  body ++ [0 - byteSum body]

/-- A command frame: address character, then the data characters (R121). -/
def commandFrame (address : Nat) (op : Byte) (args : List Byte) : List LineChar :=
  addressChar address :: (commandBody op args).map dataChar

end Sys2Proof.Machine
end

