-- ==== Sys2Proof/Machine/Flags.lean ====
section
/-! DEFINITION. The computation of one bond (chapter 3): wear compensation, stage levels, energy, deformation, contact
window, verdict, the eight bond flags and the marginal band. -/

namespace Sys2Proof.Machine

open Sys2Proof

/-! ## Stages 1 and 2: power (R48, R50) -/

/-- m, the wear steps of the capillary (R48). -/
def wearSteps (nCap : Nat) : Nat := nCap / 10000

/-- inc (R48). -/
def wearIncrement (pSet gain m : Nat) : Nat := pSet * gain * m / 1000

/-- inc, P_eff, SATURATED and P_pre of one bond (R48, R50). -/
def powerOf (set : BondSet) (cfg : HeadConfig) (m : Nat) : Power :=
  let inc := wearIncrement set.pSet cfg.gain m
  let pEff := min cfg.pLim (set.pSet + inc)
  { inc := inc, pEff := pEff, pPre := pEff * set.r / 100, saturated := decide (cfg.pLim < set.pSet + inc) }

/-! ## Stages 3 and 4: samples, energy, deformation (R51 to R53) -/

/-- N, the number of samples a weld expects (R8, R51). -/
def samplesExpected (set : BondSet) : Nat := set.t / 50

/-- A capture record after one POWER_SAMPLE word (R51). -/
def Capture.sample (c : Capture) (set : BondSet) (word : Nat) : Capture :=
  if c.acc = .opened ∧ c.received < samplesExpected set then
    { c with sum := c.sum + min word 1023, received := c.received + 1 }
  else c

/-- A capture record at the weld timer's expiry, with the Z encoder's value (R52, R53): z_e, E, shortfall and d. -/
def Capture.expire (c : Capture) (set : BondSet) (z : Nat) : Capture :=
  { c with
    ze := some z
    energy := c.sum / 20
    shortfall := samplesExpected set - c.received
    deform := c.zc.getD 0 - z
    acc := .closed }

/-! ## The contact window (R54) -/

/-- The difference between z_c and the nominal height. -/
def heightDifference (zc z : Nat) : Nat := if z ≤ zc then zc - z else z - zc

/-- The contact window test passes. -/
def withinContactWindow (zc z cw : Nat) : Bool := decide (heightDifference zc z ≤ cw)

/-! ## Stage 6: the marginal band (R59) -/

/-- w, the width of a marginal band. -/
def marginalWidth (set : BondSet) : Nat := (set.eMax - set.eMin) * set.guard / 100

/-- The bond of energy e is marginal. -/
def isMarginal (set : BondSet) (e : Nat) : Bool :=
  let w := marginalWidth set
  decide (set.eMin ≤ e ∧ e < set.eMin + w) || decide (set.eMax < e + w ∧ e ≤ set.eMax)

/-! ## The flags byte (R58, R160) -/

/-- LIFT alone. -/
def flagLift : Byte := 0x01
/-- The MARGINAL bit's place. -/
def flagMarginal : Nat := 5

/-- A flags byte from its eight flags, LIFT in bit 0 to SHORTFALL in bit 7 (R160). -/
def flagsByte (lift eLow eHigh dLow dHigh marginal saturated shortfall : Bool) : Byte :=
  boolByte lift ||| boolByte eLow <<< 1 ||| boolByte eHigh <<< 2 ||| boolByte dLow <<< 3 ||| boolByte dHigh <<< 4 |||
    boolByte marginal <<< 5 ||| boolByte saturated <<< 6 ||| boolByte shortfall <<< 7

/-! ## Stage 5: the verdict (R55) -/

/-- A capture record after the check of a bond whose weld reached expiry: tests 3 to 7 in order, and every flag
(R55, R58). -/
def Capture.judge (c : Capture) (set : BondSet) (power : Power) (attached : Bool) : Capture :=
  let eLow := decide (c.energy < set.eMin)
  let eHigh := decide (set.eMax < c.energy)
  let dLow := decide (c.deform < set.dMin)
  let dHigh := decide (set.dMax < c.deform)
  { c with
    verdict := some
      (if !attached then .lift
       else if eLow then .energyLow
       else if eHigh then .energyHigh
       else if dLow then .deformLow
       else if dHigh then .deformHigh
       else .good)
    flags := flagsByte (!attached) eLow eHigh dLow dHigh (isMarginal set c.energy) power.saturated
      (decide (0 < c.shortfall)) }

/-- A bond ended ABORTED (R56, R61): its z_c is kept, nothing is formed from its accumulator. -/
def Capture.abort (c : Capture) : Capture :=
  { c with energy := 0, deform := 0, shortfall := 0, flags := 0, verdict := some .aborted }

/-- A bond ended by a wire break before its weld reached expiry (R57). -/
def Capture.breakLift (c : Capture) : Capture :=
  { c with energy := 0, deform := 0, shortfall := 0, flags := flagLift, verdict := some .lift }

/-- What the wire record carries for a bond (R37, R52, R61): NOT_MADE carries zeros, P_eff is the snapshot's always. -/
def Capture.result (c : Capture) (power : Power) : BondResult :=
  match c.verdict with
  | none | some .notMade =>
    { verdict := .notMade, flags := 0, energy := 0, deform := 0, zc := 0, pEff := power.pEff, shortfall := 0 }
  | some v =>
    { verdict := v, flags := c.flags, energy := c.energy, deform := c.deform, zc := c.zc.getD 0, pEff := power.pEff,
      shortfall := min c.shortfall 255 }

/-- The bond carries MARGINAL (R59). -/
def BondResult.marginal (r : BondResult) : Bool := r.flags.getLsbD flagMarginal

/-- The wire's outcome from its two verdicts when neither HALT nor a drive fault ended it (R61). -/
def outcomeOf (ball stitch : BondResult) : WireOutcome :=
  if ball.verdict = .good ∧ stitch.verdict = .good then .good else .failed

end Sys2Proof.Machine
end

