-- ==== Sys2Proof/Machine/Ops.lean ====
section
/-! DEFINITION. Shared operations: updates of the state block by block, notices, conditions and ALERT, regions and their
records, prompts and the tone, the gates of heads, feed and pull station, the hand-over of an operation to the Drive Line. -/

namespace Sys2Proof.Machine

open Sys2Proof

/-! ## Updates -/

/-- The state with another CMC. -/
def State.setCmc (s : State) (x : Cmc) : State := { s with cmc := x }
/-- The state with another Recipe Store. -/
def State.setRs (s : State) (x : RecipeStore) : State := { s with rs := x }
/-- The state with another pair of heads. -/
def State.setHeads (s : State) (x : PerHead Head) : State := { s with heads := x }
/-- The state with another STU. -/
def State.setStu (s : State) (x : Stu) : State := { s with stu := x }
/-- The state with another TRC. -/
def State.setTrc (s : State) (x : Trc) : State := { s with trc := x }
/-- The state with another DLC. -/
def State.setDlc (s : State) (x : Dlc) : State := { s with dlc := x }
/-- The state with another PSC. -/
def State.setPsc (s : State) (x : Psc) : State := { s with psc := x }
/-- The state with another RM. -/
def State.setRm (s : State) (x : Rm) : State := { s with rm := x }
/-- The state with another PNC. -/
def State.setPnc (s : State) (x : Pnc) : State := { s with pnc := x }
/-- The state with another SLI. -/
def State.setLink (s : State) (x : Link) : State := { s with link := x }

/-- One head. -/
def State.head (s : State) (h : HeadId) : Head := s.heads.get h
/-- The state with one head replaced. -/
def State.setHead (s : State) (h : HeadId) (x : Head) : State := s.setHeads (s.heads.set h x)
/-- The state with one region replaced. -/
def State.setRegion (s : State) (i : RegionId) (x : Region) : State := s.setRm (s.rm.set i x)
/-- The state with one drive's record replaced. -/
def State.setDrive (s : State) (d : Drive) (x : DriveState) : State :=
  s.setDlc { s.dlc with drives := s.dlc.drives.set d x }

/-! ## Notices and conditions (R189, R199) -/

/-- The mask of one condition. -/
def Condition.bit (c : Condition) : BitVec 22 := 1#22 <<< c.id

/-- A notice handed to the SLI; at a full queue it is dropped and NOTICE_LOST set (R199). -/
def State.handNotice (s : State) (n : Notice) : State :=
  if s.link.notices.length < Config.noticeQueueSize then
    s.setLink { s.link with notices := s.link.notices ++ [n] }
  else s.setCmc { s.cmc with conditions := s.cmc.conditions ||| Condition.noticeLost.bit }

/-- A setting of a sticky condition (R189). -/
def State.setCondition (s : State) (c : Condition) : State :=
  if s.cmc.conditions.getLsbD c.id then s
  else
    let set := s.cmc.conditions ||| c.bit
    let s1 := s.setCmc { s.cmc with conditions := set }
    if s.cmc.enables.getLsbD c.id then s1.handNotice (.condition c.id set) else s1

/-- The ALERT output (R189). -/
def Cmc.alert (c : Cmc) : Bool := c.conditions &&& c.enables != 0#22

/-! ## Regions (chapter 9) -/

/-- Cells per record (R149). -/
def cellsPerRecord : RegionId → Nat
  | .bondA => 3
  | .bondB => 3
  | .pull => 2
  | .strip => 8
  | .event => 1

/-- Capacity of a range of blocks (R149). -/
def capacityOf (i : RegionId) (first last : Nat) : Nat := 64 * (last + 1 - first) / cellsPerRecord i

/-- Capacity of a region (R149). -/
def Region.capacity (r : Region) (i : RegionId) : Nat := capacityOf i r.first r.last

/-- Committed count (R149). -/
def Region.committed (r : Region) : Nat := r.records.length

/-- Serial of a record. -/
def Record.serial : Record → Nat
  | .wire r => r.serial
  | .pull r => r.serial
  | .strip r => r.serial
  | .event r => r.serial

/-- Serial of the oldest committed record, 0 when there is none (R157, R158). -/
def Region.oldestSerial (r : Region) : Nat :=
  match r.records with
  | [] => 0
  | x :: _ => x.serial

/-- The serial after a serial; 0 is never a serial (R153). -/
def serialAfter (n : Nat) : Nat := if n < 4294967295 then n + 1 else 1

/-- A record appended under the next serial (R153). -/
def Region.append (r : Region) (mk : Nat → Record) : Region :=
  { r with records := r.records ++ [mk r.nextSerial], nextSerial := serialAfter r.nextSerial }

/-- The watermark rule after a commit that raised committed (R155). -/
def State.watermarkRise (s : State) (i : RegionId) : State :=
  let r := s.rm.get i
  if r.watermark ≠ 0 ∧ r.committed = r.watermark ∧ r.above = false then
    (s.setRegion i { r with above := true }).handNotice (.watermark i r.committed r.watermark)
  else s

/-- A commit into a reservation (R153). -/
def State.commit (s : State) (i : RegionId) (mk : Nat → Record) : State :=
  let r := s.rm.get i
  (s.setRegion i { r.append mk with reserved := r.reserved - 1 }).watermarkRise i

/-- A commit of an event record (R154, R161). -/
def State.writeEvent (s : State) (code : EventCode) (source arg : Nat) : State :=
  let r := s.rm.event
  if r.committed < r.capacity .event then
    (s.setRegion .event (r.append fun n => .event ⟨n, s.cmc.cellTime, code, source, arg, r.lost⟩)).watermarkRise .event
  else
    let lost := min 65535 (r.lost + 1)
    let cut := { r with records := r.records.drop 1, lost := lost }
    (s.setCondition .eventOverwrite).setRegion .event
      (cut.append fun n => .event ⟨n, s.cmc.cellTime, code, source, arg, lost⟩)

/-- A request for one reservation (R150): the answer is whether it was granted. -/
def State.reserve (s : State) (i : RegionId) : State × Bool :=
  let r := s.rm.get i
  if r.committed + r.reserved + 1 ≤ r.capacity i then
    (s.setRegion i { r with reserved := r.reserved + 1, waiting := false }, true)
  else ((s.setRegion i { r with waiting := true }).setCondition .regionStall, false)

/-! ## The tone and the prompt queue (10.4, R177) -/

/-- An ALARM prompt is present. -/
def Pnc.alarmPresent (p : Pnc) : Bool := p.prompts.any fun q => q.severity == .alarm

/-- The tone sounds (R177). -/
def Pnc.sounding (p : Pnc) : Bool := (p.alarmPresent && !p.silenced) || p.chirp

/-- The half-period timer started or stopped with the tone (R177). -/
def Pnc.refreshTone (p : Pnc) : Pnc :=
  if p.sounding then
    match p.toneTimer with
    | none => { p with toneTimer := some p.h, toneHigh := false }
    | some _ => p
  else { p with toneTimer := none, toneHigh := false }

/-- A chirp (R177). -/
def State.chirp (s : State) : State := s.setPnc { s.pnc with chirp := true }.refreshTone

/-- ALARM before ACTION before INFO (R171). -/
def Severity.rank : Severity → Nat
  | .alarm => 0
  | .action => 1
  | .info => 2

/-- The first prompt stands before the second in the queue's order (R171). -/
def Prompt.before (p q : Prompt) : Bool :=
  decide (p.severity.rank < q.severity.rank) ||
    (decide (p.severity.rank = q.severity.rank) && decide (p.raiseNo ≤ q.raiseNo))

/-- A prompt put in its place (R171). -/
def insertPrompt (p : Prompt) : List Prompt → List Prompt
  | [] => [p]
  | q :: qs => if q.before p then q :: insertPrompt p qs else p :: q :: qs

/-- The prompt has this kind and source. -/
def Prompt.is (p : Prompt) (kind : PromptKind) (source : Nat) : Bool := p.kind == kind && p.source == source

/-- The prompt of a kind and source, if it is in the queue. -/
def Pnc.findPrompt (p : Pnc) (kind : PromptKind) (source : Nat) : Option Prompt :=
  p.prompts.find? fun q => q.is kind source

/-- A raise of a prompt with its severity and text (R171); an ALARM raise clears the silenced flag (R177).
The next raise number wraps at 32 bits (log 22). -/
def State.raiseNote (s : State) (kind : PromptKind) (source : Nat) (severity : Severity) (arg : Nat)
    (text : List Byte) : State :=
  match s.pnc.findPrompt kind source with
  | some _ => s
  | none =>
    let p : Prompt :=
      { kind := kind, source := source, severity := severity, arg := arg, raiseNo := s.pnc.nextRaise,
        time := s.cmc.cellTime, text := text }
    let queue := insertPrompt p s.pnc.prompts
    let pnc :=
      { s.pnc with
        prompts := queue
        nextRaise := (s.pnc.nextRaise + 1) % 4294967296
        silenced := s.pnc.silenced && severity != Severity.alarm }
    (s.setPnc pnc.refreshTone).handNotice (.prompt false kind source severity arg queue.length)

/-- A raise of a prompt by a block (R171, R172). -/
def State.raisePrompt (s : State) (kind : PromptKind) (source arg : Nat) : State :=
  s.raiseNote kind source kind.severity arg []

/-- A removal of a prompt (R171). -/
def State.removePrompt (s : State) (kind : PromptKind) (source : Nat) : State :=
  match s.pnc.findPrompt kind source with
  | none => s
  | some p =>
    let queue := s.pnc.prompts.filter fun q => !q.is kind source
    (s.setPnc { s.pnc with prompts := queue }.refreshTone).handNotice
      (.prompt true kind source p.severity p.arg queue.length)

/-! ## Strips and stations -/

/-- The strip record at a station (R64). -/
def State.stripAt (s : State) (st : Station) : Option StripRecord := s.stu.strips.find? fun r => r.station == st

/-- A station is occupied. -/
def State.occupied (s : State) (st : Station) : Bool := (s.stripAt st).isSome

/-- The track is empty (R78). -/
def State.trackEmpty (s : State) : Bool := s.stu.strips.isEmpty && s.trc.push.isNone

/-- The cell mode is RUN or DRAIN. -/
def State.working (s : State) : Bool := s.cmc.mode == .run || s.cmc.mode == .drain

/-! ## Gates of the heads (R23) -/

/-- The strip at BOND is reported clamped (R96). -/
def State.clampReported (s : State) : Bool := s.trc.clamp == .closed && s.trc.seq == .idle

/-- The first of gates 1 to 5 that fails (R23). -/
def State.headGate (s : State) (h : HeadId) : Option HeadGate :=
  if !s.working then some .mode
  else if s.cmc.hold.isSome then some .hold
  else if !s.clampReported then some .clamp
  else if s.trc.heat != .inBand then some .heat
  else if (s.head h).wantsBand && s.stu.grant != some h then some .band
  else none

/-- The region's producer has been refused and not yet told of room: it makes no further request (R150, R152). -/
def State.refused (s : State) (i : RegionId) : Bool := (s.rm.get i).waiting

/-- The waiting gate of a producer whose gates before RECORD all pass: RECORD while it may make no request (R150), else none,
and its start is due (log 8). -/
def recordGate {α : Type} (refused : Bool) (record : α) : Option α := if refused then some record else none

/-- Reserve in pulses (R80). -/
def HeadConfig.reservePulses (c : HeadConfig) : Nat := c.spoolReserve * Config.pulsesPerMetre

/-- The suspension the consumable tests give, the capillary's first (R24, R84, R89). -/
def State.consumableReason (s : State) (h : HeadId) : Option Reason :=
  let cfg := (s.rs.heads.get h).item
  if cfg.life < (s.head h).nCap + 2 then some .capLife
  else if (s.head h).spool < cfg.reservePulses then some .spoolEmpty
  else none

/-- The head asks for nothing once gates 1 to 5 and the consumable tests pass: its region has refused it (R24, R150). -/
def State.barred (s : State) (h : HeadId) : Bool := s.refused (bondRegion h) && (s.consumableReason h).isNone

/-- The gate test of a READY head (R23, R24): its first failing gate. With gates 1 to 5 passed and a consumable test failing
the gate is none, and the suspension is due at WIRE_START (log 8). -/
def State.testHeadGates (s : State) (h : HeadId) : State :=
  let x := s.head h
  if x.state = .ready then
    s.setHead h { x with gate := (s.headGate h).orElse fun _ => recordGate (s.barred h) .record }
  else s

/-- Both heads test their gates. -/
def State.testBothHeads (s : State) : State := (s.testHeadGates .a).testHeadGates .b

/-! ## Gates of the feed (R100) -/

/-- The first of gates 1 to 6 that fails, in the order of the table (R100, log 43). -/
def State.firstFeedGate (s : State) : Option FeedGate :=
  if s.cmc.mode != .run then some .mode
  else if s.cmc.lot != .opened then some .lot
  else if 65535 ≤ s.stu.fed then some .serial
  else if s.occupied .load || s.trc.push.isSome then some .load
  else if s.trc.seq != .idle then some .moving
  else if s.trc.inMag.state != .ready || s.trc.stopInput then some .magazine
  else none

/-- The feed test (R100): the first failing gate. -/
def State.testFeed (s : State) : State :=
  s.setTrc { s.trc with feedGate := s.firstFeedGate.orElse fun _ => recordGate (s.refused .strip) .record }

/-! ## Gates of the pull station (R134) -/

/-- The gate test of a WAITING station (R134): the first failing gate. -/
def State.testPullGates (s : State) : State :=
  if s.psc.state = .waiting then
    if !s.working then s.setPsc { s.psc with gate := some .mode }
    else if Config.classifyQueueSize ≤ s.psc.queue.length then
      (s.setPsc { s.psc with gate := some .queue }).setCondition .classifyBacklog
    else s.setPsc { s.psc with gate := recordGate (s.refused .pull) .record }
  else s

/-! ## Room (R152) -/

/-- The room notice taken by a region's producer: it tests its gates again (R24, R100, R134). -/
def State.roomNotice (s : State) (i : RegionId) : State :=
  match i with
  | .bondA => s.testHeadGates .a
  | .bondB => s.testHeadGates .b
  | .pull => s.testPullGates
  | .strip => s.testFeed
  | .event => s

/-- The room rule after committed + reserved of a region fell (R152). -/
def State.roomFell (s : State) (i : RegionId) : State :=
  let r := s.rm.get i
  if r.waiting then (s.setRegion i { r with waiting := false }).roomNotice i else s

/-- A returned reservation (R151, R152). -/
def State.returnReservation (s : State) (i : RegionId) : State :=
  let r := s.rm.get i
  (s.setRegion i { r with reserved := r.reserved - 1 }).roomFell i

/-! ## The Drive Line (R119) -/

/-- The line once a STOP transfer has ended: its four characters need no answer (R127, R128, log 10). -/
def LineState.afterStop : LineState → LineState
  | .stop => .free
  | l => l

/-- An operation handed to the DLC outside HALT: it enters the end of the queue (R119). In HALT the callers end it STOPPED
at once (R128). -/
def State.handOver (s : State) (d : Drive) (op : DriveOp) : State :=
  s.setDlc
    { s.dlc with
      queue := s.dlc.queue ++ [d]
      drives := s.dlc.drives.set d { s.dlc.drives.get d with stage := .queued, op := some op } }

/-! ## The transmitter (R199) -/

/-- The transmitter's choice whenever it is IDLE: the reply, else the oldest notice (R199). Nothing is sent between the end
of a WARM_RESTART reply and the reset (R203, log 20). -/
def State.txChoose (s : State) : State :=
  if s.link.tx.isSome || s.link.restart == .due then s
  else
    match s.link.reply, s.link.notices with
    | some f, _ => s.setLink { s.link with tx := some (.reply f), reply := none }
    | none, n :: ns => s.setLink { s.link with tx := some (.notice n), notices := ns }
    | none, [] => s

end Sys2Proof.Machine
end

