-- ==== Sys2Proof/Machine/Units.lean ====
section
/-! DEFINITION. The Strip Table and Unit Allocator (chapter 4) and the head's side of obtaining work and of being suspended
(2.2, R43): strip records, own lists, the band pool and its grant, reports, bond completion. -/

namespace Sys2Proof.Machine

open Sys2Proof

/-! ## Units of a strip -/

/-- Unit index of a row and column (R2, R62). -/
def unitIndex (row col : Nat) : Nat := (row - 1) * Config.mapColumns + (col - 1)

/-- State of a unit; NONE outside the map. -/
def StripRecord.unitAt (r : StripRecord) (row col : Nat) : UnitState := (r.units[unitIndex row col]?).getD .none

/-- The record with one unit's state changed. -/
def StripRecord.setUnit (r : StripRecord) (row col : Nat) (u : UnitState) : StripRecord :=
  { r with units := r.units.setIfInBounds (unitIndex row col) u }

/-- The strip record with a serial. -/
def State.stripOf (s : State) (serial : Nat) : Option StripRecord := s.stu.strips.find? fun r => r.serial == serial

/-- The record with a serial changed (R65: only the record whose serial the event names). -/
def State.updateStrip (s : State) (serial : Nat) (f : StripRecord → StripRecord) : State :=
  s.setStu { s.stu with strips := s.stu.strips.map fun r => if r.serial == serial then f r else r }

/-- A unit moved from one state to another, and left unchanged in any other state (R65). -/
def State.moveUnit (s : State) (u : UnitRef) (source target : UnitState) : State :=
  s.updateStrip u.strip fun r => if r.unitAt u.row u.col = source then r.setUnit u.row u.col target else r

/-! ## Own columns and the band pool (R66) -/

/-- Head enabled in the configuration in force. -/
def State.enabled (s : State) (h : HeadId) : Bool := (s.rs.heads.get h).item.enabled

/-- Both heads are enabled. -/
def State.bothEnabled (s : State) : Bool := s.enabled .a && s.enabled .b

/-- Columns of a head's own list, in order (R66). -/
def State.ownColumns (s : State) (h : HeadId) : List Nat :=
  let l := s.rs.layout.item
  if !s.enabled h then []
  else
    match h with
    | .a => List.range' 1 (if s.bothEnabled then l.a else l.cols)
    | .b =>
      if s.bothEnabled then (List.range' l.b (l.cols + 1 - l.b)).reverse else (List.range' 1 l.cols).reverse

/-- Columns of the band pool, ascending (R66). -/
def State.poolColumns (s : State) : List Nat :=
  if s.bothEnabled then List.range' (s.rs.layout.item.a + 1) (s.rs.layout.item.b - 1 - s.rs.layout.item.a) else []

/-- Columns of the band pool in the order a head takes them (R68). -/
def State.bandColumns (s : State) : HeadId → List Nat
  | .a => s.poolColumns
  | .b => s.poolColumns.reverse

/-- Units of columns in order, rows ascending within a column (R66, R68). -/
def State.unitsOf (s : State) (columns : List Nat) : List (Nat × Nat) :=
  columns.flatMap fun c => (List.range' 1 s.rs.layout.item.rows).map fun r => (r, c)

/-- The first PENDING unit of a list. -/
def firstPending (r : StripRecord) (units : List (Nat × Nat)) : Option (Nat × Nat) :=
  units.find? fun u => r.unitAt u.1 u.2 == .pending

/-- The head's next own unit (R66). -/
def State.ownUnit (s : State) (h : HeadId) (r : StripRecord) : Option (Nat × Nat) :=
  firstPending r (s.unitsOf (s.ownColumns h))

/-- The head's band unit (R68); none when the pool holds no PENDING unit. -/
def State.bandUnit (s : State) (h : HeadId) (r : StripRecord) : Option (Nat × Nat) :=
  firstPending r (s.unitsOf (s.bandColumns h))

/-- A unit lies in the band pool. -/
def State.inPool (s : State) (u : UnitRef) : Bool := s.poolColumns.contains u.col

/-! ## Suspension (R43) and IDLE (R21, R22) -/

/-- The stop condition of a head (R43). -/
def headStopped : HeadId → Condition
  | .a => .headAStopped
  | .b => .headBStopped

/-- The head is suspended with a reason (R43). -/
def State.suspend (s : State) (h : HeadId) (why : Reason) : State :=
  let s1 := s.setHead h { s.head h with state := .suspended, gate := none, reason := some why }
  let s2 := s1.raisePrompt .headStop (headNo h) why.code
  let s3 := s2.setCondition (headStopped h)
  let s4 := s3.handNotice (.head h .suspended (some why))
  s4.writeEvent .headSuspended (sourceHead h) why.code

/-- A unit given to a head: the STU marks it IN_WORK and the head holds it from wire 1 on (R22, R67, R68). -/
def State.giveUnit (s : State) (h : HeadId) (u : UnitRef) : State :=
  let s1 := s.moveUnit u .pending .inWork
  s1.setHead h { s1.head h with unit := some u, wantsBand := false, wireIndex := 1 }

/-- An IDLE head asks the STU for work (R22, R67). -/
def State.askWork (s : State) (h : HeadId) : State :=
  match s.stripAt .bond with
  | none => s
  | some r =>
    if r.complete || !s.working then s
    else
      match s.ownUnit h r with
      | some (row, col) =>
        let s1 := s.giveUnit h ⟨r.serial, row, col⟩
        (s1.setHead h { s1.head h with state := .ready, gate := none }).testHeadGates h
      | none =>
        match s.bandUnit h r with
        | some _ =>
          let s1 := s.setStu { s.stu with request := s.stu.request.set h true }
          (s1.setHead h { s1.head h with state := .ready, gate := some .band, wantsBand := true }).testHeadGates h
        | none => s

/-- The head enters IDLE (R21): with WIRE_BREAK asserted it is suspended at once, its restart-spark flag set (R40, log 12);
otherwise it asks for work (R22). -/
def State.enterIdle (s : State) (h : HeadId) : State :=
  let x : Head :=
    { s.head h with state := .idle, phase := none, gate := none, reason := none, unit := none, wantsBand := false }
  if x.wireBreak then (s.setHead h { x with restartSpark := true }).suspend h .wireBreak
  else (s.setHead h x).askWork h

/-- A head that is IDLE asks for work (R22). -/
def State.askIfIdle (s : State) (h : HeadId) : State := if (s.head h).state = .idle then s.askWork h else s

/-! ## The band arbiter (R68 to R70) -/

/-- One head's standing request ended without a unit (R70). -/
def State.endRequest (s : State) (h : HeadId) : State :=
  if s.stu.request.get h then
    let s1 := s.setStu { s.stu with request := s.stu.request.set h false }
    if (s1.head h).state = .suspended then s1.setHead h { s1.head h with wantsBand := false }
    else s1.enterIdle h
  else s

/-- Every standing request ended (R70), head A's first (log 51). -/
def State.endRequests (s : State) : State := (s.endRequest .a).endRequest .b

/-- A head that requests the band and is not SUSPENDED (R69). -/
def State.eligible (s : State) (h : HeadId) : Bool := s.stu.request.get h && (s.head h).state != .suspended

/-- The head to which the arbiter gives the grant while the pool holds a PENDING unit (R69). -/
def State.bandChoice (s : State) : Option HeadId :=
  match s.eligible .a, s.eligible .b with
  | true, true => if s.stu.lastHolder = some .a then some .b else some .a
  | true, false => some .a
  | false, true => some .b
  | false, false => none

/-- The grant with a unit (R68). -/
def State.grantBand (s : State) (h : HeadId) (u : UnitRef) : State :=
  let s1 :=
    s.setStu { s.stu with grant := some h, lastHolder := some h, request := s.stu.request.set h false }
  (s1.giveUnit h u).testHeadGates h

/-- The arbiter's decision (R69, R70). -/
def State.decideBand (s : State) : State :=
  if s.stu.grant.isSome || !(s.stu.request.a || s.stu.request.b) then s
  else
    match s.stripAt .bond with
    | none => s.endRequests
    | some r =>
      match s.bandUnit .a r with
      | none => s.endRequests
      | some _ =>
        match s.bandChoice with
        | none => s
        | some h =>
          match s.bandUnit h r with
          | none => s
          | some (row, col) => s.grantBand h ⟨r.serial, row, col⟩

/-! ## Bond completion (R74 to R76) -/

/-- No unit is PENDING or IN_WORK (R74). -/
def StripRecord.settled (r : StripRecord) : Bool := r.units.all fun u => u != .pending && u != .inWork

/-- The pull origin after the escalation decision (R75). -/
def escalate (p : Plan) (r : StripRecord) : PullOrigin :=
  if 0 < p.q ∧ r.origin = .none ∧ p.q ≤ r.marginalCount then .escalated else r.origin

/-- Entry origin of a site entry (R76). -/
def siteOrigin : PullOrigin → EntryOrigin
  | .escalated => .escalated
  | _ => .plan

/-- The first pass: plan sites on BONDED units (R76). -/
def sitePass (p : Plan) (wires : Nat) (r : StripRecord) (origin : PullOrigin) : List PullEntry :=
  (p.sites.filter fun x => r.unitAt x.row x.col == .bonded && decide (x.wire ≤ wires)).map
    fun x => ⟨x.row, x.col, x.wire, siteOrigin origin⟩

/-- The list holds an entry with this row, column and wire. -/
def listed (es : List PullEntry) (x : Site) : Bool :=
  es.any fun e => e.row == x.row && e.col == x.col && e.wire == x.wire

/-- The second pass: marginal additions until m have been appended (R76). -/
def marginalPass (r : StripRecord) : Nat → List Site → List PullEntry → List PullEntry
  | _, [], es => es
  | 0, _ :: _, es => es
  | m + 1, x :: xs, es =>
    if r.unitAt x.row x.col = .bonded ∧ listed es x = false then
      marginalPass r m xs (es ++ [⟨x.row, x.col, x.wire, .marginal⟩])
    else marginalPass r (m + 1) xs es

/-- The pull list (R76). -/
def buildPullList (p : Plan) (wires : Nat) (r : StripRecord) (origin : PullOrigin) : List PullEntry :=
  match origin with
  | .none => []
  | .plan => marginalPass r p.m r.marginals (sitePass p wires r .plan)
  | .escalated => marginalPass r p.m r.marginals (sitePass p wires r .escalated)

/-- The bond completion test (R74). Its last step, telling the TRC, makes TRACK_SEQUENCE_START possible (log 1). -/
def State.testBondCompletion (s : State) : State :=
  match s.stripAt .bond with
  | none => s
  | some r =>
    if r.complete || !r.settled then s
    else
      let s1 := s.updateStrip r.serial fun x => { x with complete := true }
      let s2 := s1.endRequests
      let origin := escalate s.rs.plan r
      let list := buildPullList s.rs.plan s.rs.layout.item.wires r origin
      s2.updateStrip r.serial fun x => { x with origin := origin, pullList := some list }

/-! ## Reports (R71 to R73, R77) -/

/-- A unit outcome reported by its head (R71). -/
def State.unitOutcome (s : State) (h : HeadId) (outcome : UnitState) : State :=
  match (s.head h).unit with
  | none => s
  | some u =>
    let s1 := s.moveUnit u .inWork outcome
    let s2 := s1.setHead h { s1.head h with unit := none, wireIndex := 0 }
    let s3 := if s2.inPool u then s2.setStu { s2.stu with grant := none } else s2
    if (s3.stripAt .bond).any fun r => r.serial == u.strip then s3.testBondCompletion else s3

/-- One more, saturating at 65,535. -/
def bump16 (n : Nat) : Nat := min 65535 (n + 1)

/-- The wire-end report without its marginal part (R72). -/
def State.wireEndReport (s : State) (strip : Nat) (outcome : WireOutcome) : State :=
  match outcome with
  | .good => s.updateStrip strip fun r => { r with good := bump16 r.good }
  | .failed => s.updateStrip strip fun r => { r with failed := bump16 r.failed }
  | .aborted => s

/-- The marginal part of a wire-end report (R73). -/
def State.marginalReport (s : State) (u : UnitRef) (wire : Nat) : State :=
  s.updateStrip u.strip fun r =>
    { r with
      marginalCount := bump16 r.marginalCount
      marginals :=
        if r.marginals.length < 8 ∧ r.marginals.contains ⟨u.row, u.col, wire⟩ = false then
          r.marginals ++ [⟨u.row, u.col, wire⟩]
        else r.marginals }

/-- A unit reported pulled (R77). -/
def State.pulledReport (s : State) (strip : Nat) (e : PullEntry) : State :=
  s.moveUnit ⟨strip, e.row, e.col⟩ .bonded .pulled

/-! ## Creation and index (R63, R64) -/

/-- The unit map of a new strip (R63). -/
def newUnits (l : Layout) (bad : BitVec 192) : Vector UnitState 192 :=
  Vector.ofFn fun i =>
    if i.val / Config.mapColumns < l.rows ∧ i.val % Config.mapColumns < l.cols then
      if bad.getLsbD i.val then .skippedIn else .pending
    else .none

/-- A strip record created at LOAD (R63); its time stored is 0 until it is stored (log 40). -/
def State.createRecord (s : State) (mag slot : Nat) (bad : Option (BitVec 192)) : State :=
  let serial := s.stu.fed + 1
  let r : StripRecord :=
    { serial := serial, inMag := mag, inSlot := slot, station := .load, mapPresent := bad.isSome,
      origin := if 0 < s.rs.plan.k ∧ serial % s.rs.plan.k = 0 then .plan else .none,
      units := newUnits s.rs.layout.item (bad.getD 0#192), complete := false, marginalCount := 0, marginals := [],
      pullList := none, good := 0, failed := 0, timeFed := s.cmc.cellTime, timeStored := 0, out := none }
  s.setStu { s.stu with fed := serial, strips := s.stu.strips ++ [r] }

/-- The station after an index (R64). -/
def Station.next : Station → Station
  | .load => .preheat
  | .preheat => .bond
  | .bond => .verify
  | .verify => .exit
  | .exit => .exit

/-- The index report (R64). -/
def State.indexReport (s : State) : State :=
  let s1 := s.setStu { s.stu with strips := s.stu.strips.map fun r => { r with station := r.station.next } }
  if s1.occupied .bond then
    let s2 := (s1.setStu { s1.stu with lastHolder := none }).testBondCompletion
    if (s2.stripAt .bond).any fun r => !r.complete then (s2.askIfIdle .a).askIfIdle .b else s2
  else s1

end Sys2Proof.Machine
end

