-- ==== Sys2Proof/Machine/Heads.lean ====
section
/-! DEFINITION. The Bond Head Controllers (chapters 2, 3, 5): consumables, positioner operations, wire start, the phases of a
wire, its end, its failures, and the resume. -/

namespace Sys2Proof.Machine

open Sys2Proof

/-! ## Consumables (5.2, 5.3) -/

/-- Configuration of a head in force. -/
def State.config (s : State) (h : HeadId) : HeadConfig := (s.rs.heads.get h).item

/-- Warning level in touchdowns (R80). -/
def HeadConfig.warningLevel (c : HeadConfig) : Nat := c.life * 95 / 100
/-- Low level in pulses (R80). -/
def HeadConfig.lowPulses (c : HeadConfig) : Nat := c.spoolLow * Config.pulsesPerMetre
/-- A full spool in pulses (R90). -/
def HeadConfig.fullPulses (c : HeadConfig) : Nat := c.spoolSize * Config.pulsesPerMetre

/-- The capillary warning judged (R82). -/
def State.judgeCap (s : State) (h : HeadId) : State :=
  let x := s.head h
  if x.capArmed ∧ (s.config h).warningLevel ≤ x.nCap then
    ((s.setHead h { x with capArmed := false }).setCondition .capWarning).raisePrompt .capWarning (headNo h) 0
  else s

/-- The capillary warning re-armed and judged at once (R83). -/
def State.rearmCap (s : State) (h : HeadId) : State :=
  ((s.setHead h { s.head h with capArmed := true }).removePrompt .capWarning (headNo h)).judgeCap h

/-- The spool low warning judged (R88). -/
def State.judgeSpool (s : State) (h : HeadId) : State :=
  let x := s.head h
  if x.spoolArmed ∧ x.spool < (s.config h).lowPulses then
    ((s.setHead h { x with spoolArmed := false }).setCondition .spoolLow).raisePrompt .spoolLow (headNo h) 0
  else s

/-- The spool low warning re-armed and judged at once (R88). -/
def State.rearmSpool (s : State) (h : HeadId) : State :=
  ((s.setHead h { s.head h with spoolArmed := true }).removePrompt .spoolLow (headNo h)).judgeSpool h

/-- The steps of R91 when a head configuration is taken. -/
def State.judgeConsumables (s : State) (h : HeadId) : State :=
  let cfg := s.config h
  let s1 := s.setHead h { s.head h with spool := min (s.head h).spool cfg.fullPulses }
  let s2 := if cfg.lowPulses ≤ (s1.head h).spool then s1.rearmSpool h else s1.judgeSpool h
  if (s2.head h).nCap < cfg.warningLevel then s2.rearmCap h else s2.judgeCap h

/-! ## Bonds of a wire -/

/-- The bond a phase works on, from the start of its search to the end of its check (R39). -/
def Phase.bond : Phase → Option Bond
  | .search1 | .weld1 | .check1 => some .ball
  | .search2 | .weld2 | .check2 => some .stitch
  | _ => none

/-- The phase is a search. -/
def Phase.isSearch (p : Phase) : Bool := p == .search1 || p == .search2
/-- The phase is a weld. -/
def Phase.isWeld (p : Phase) : Bool := p == .weld1 || p == .weld2
/-- The phase is a check. -/
def Phase.isCheck (p : Phase) : Bool := p == .check1 || p == .check2

/-- Capture record of a bond. -/
def Head.capture (x : Head) : Bond → Capture
  | .ball => x.ball
  | .stitch => x.stitch

/-- The head with one bond's capture record replaced. -/
def Head.setCapture (x : Head) (b : Bond) (c : Capture) : Head :=
  match b with
  | .ball => { x with ball := c }
  | .stitch => { x with stitch := c }

/-- Bond set of a bond in the snapshot. -/
def Snapshot.set (n : Snapshot) : Bond → BondSet
  | .ball => n.ballSet
  | .stitch => n.stitchSet

/-- Power values of a bond in the snapshot. -/
def Snapshot.power (n : Snapshot) : Bond → Power
  | .ball => n.ball
  | .stitch => n.stitch

/-- Nominal height of a bond's point (R29). -/
def Snapshot.height (n : Snapshot) : Bond → Nat
  | .ball => n.entry.z1
  | .stitch => n.entry.z2

/-- Setpoints 0, requests dropped, later results ignored (R39, step 1). -/
def Head.quiet (x : Head) : Head :=
  { x with force := 0, ultrasonic := 0, shadow := 0, checkRequest := false, sparkRequest := false, contactWait := false }

/-- The phase left behind: an operation still outstanding no longer has a phase that waits for it (R26). -/
def Head.leavePhase (x : Head) : Head := { x with posOp := x.posOp.map fun _ => .stale, contactWait := false }

/-! ## Wire end (R37, R38) -/

/-- The wire record of a head (R37, R61, R87). -/
def wireRecord (x : Head) (n : Snapshot) (h : HeadId) (time : Nat) (outcome : WireOutcome) (serial : Nat) : WireRecord :=
  { serial := serial, time := time, unit := n.unit, wire := n.wire, head := h, outcome := outcome,
    ball := x.ball.result n.ball, stitch := x.stitch.result n.stitch, capStart := n.capStart, length := x.wireFeed }

/-- The fail count after a commit (R38). -/
def failCountAfter (outcome : WireOutcome) (count : Nat) : Nat :=
  match outcome with
  | .good => 0
  | .failed => min 255 (count + 1)
  | .aborted => count

/-- The unit state a wire outcome reports (R37). -/
def unitAfter : WireOutcome → UnitState
  | .good => .bonded
  | .failed => .reject
  | .aborted => .aborted

/-- The suspension this wire end raises: a given reason, else LIFT_LIMIT (R38). -/
def endReason (outcome : WireOutcome) (count limit : Nat) (why : Option Reason) : Option Reason :=
  match why with
  | some r => some r
  | none => if outcome = .failed ∧ limit ≤ count then some .liftLimit else none

/-- Wire end (R37): commit, fail count, end of the wire, wire-end and marginal report, the unit, then the suspension or the
next state. A head that enters IDLE asks for work in this same step, so its new band request is present when BAND_GRANT follows
(log 48). -/
def State.endWire (s : State) (h : HeadId) (outcome : WireOutcome) (setRestart : Bool) (why : Option Reason) : State :=
  let x := s.head h
  match x.snapshot with
  | none => s
  | some n =>
    let record := wireRecord x n h s.cmc.cellTime outcome
    let s1 := s.commit (bondRegion h) fun k => .wire (record k)
    let count := failCountAfter outcome x.failCount
    let y : Head :=
      { (x.quiet).leavePhase with
        phase := none, snapshot := none, heldOp := none, sparkAttempts := 0, sparkFrom := none, failCount := count,
        restartSpark := x.restartSpark || setRestart }
    let s2 := (s1.setHead h y).wireEndReport n.unit.strip outcome
    let s3 :=
      if (record 0).ball.marginal || (record 0).stitch.marginal then s2.marginalReport n.unit n.wire else s2
    let keeps := outcome = .good ∧ x.wireIndex < s.rs.layout.item.wires
    let s4 :=
      if keeps then s3.setHead h { s3.head h with wireIndex := x.wireIndex + 1 }
      else s3.unitOutcome h (unitAfter outcome)
    match endReason outcome count (s.config h).liftLimit why with
    | some r => s4.suspend h r
    | none =>
      if keeps then (s4.setHead h { s4.head h with state := .ready, gate := none }).testHeadGates h
      else s4.enterIdle h

/-- The outcome of a wire that neither HALT nor a drive fault ended (R61), nor a wire break, whose outcome R40 gives (log 28). -/
def Head.outcome (x : Head) (n : Snapshot) : WireOutcome := outcomeOf (x.ball.result n.ball) (x.stitch.result n.stitch)

/-! ## Failures during a wire (R39 to R41) -/

/-- Verdicts when HALT or a drive fault ends the wire (R39, step 2; R56). -/
def Head.abortBonds (x : Head) : Head :=
  match x.phase.bind Phase.bond with
  | some b => x.setCapture b (x.capture b).abort
  | none => x

/-- Verdicts when a wire break ends the wire (R57). -/
def Head.breakBonds (x : Head) (n : Snapshot) : Head :=
  match x.phase with
  | some p =>
    match p.bond with
    | some b =>
      if p.isCheck then x.setCapture b ((x.capture b).judge (n.set b) (n.power b) false)
      else x.setCapture b (x.capture b).breakLift
    | none => x
  | none => x

/-- The wire aborted: by a drive fault (R39, suspended with DRIVE), or by HALT or STOPPED (R41, no suspension). -/
def State.abortWire (s : State) (h : HeadId) (why : Option Reason) : State :=
  (s.setHead h (s.head h).quiet.abortBonds).endWire h .aborted true why

/-- A drive fault (R39). -/
def State.driveFault (s : State) (h : HeadId) : State := s.abortWire h (some .drive)

/-- HALT or STOPPED taken by the head (R41): only an ACTIVE head is changed. -/
def State.haltHead (s : State) (h : HeadId) : State := if (s.head h).state = .active then s.abortWire h none else s

/-- WIRE_BREAK becoming asserted, by head state (R40). A wire in any phase ends FAILED, after two GOOD verdicts too: R40 and the
opcode table's row of this event say so of it, R37 and R61 of wires in general (log 28). -/
def State.wireBreak (s : State) (h : HeadId) : State :=
  let x := s.head h
  match x.state with
  | .active =>
    match x.snapshot with
    | some n =>
      let y := x.quiet.breakBonds n
      (s.setHead h y).endWire h .failed true (some .wireBreak)
    | none => s
  | .idle | .ready => (s.setHead h { x with restartSpark := true }).suspend h .wireBreak
  | .suspended | .disabled => s

/-! ## Phases (2.4) -/

/-- A phase that begins with a positioner operation: issued at once, or kept while an earlier one is outstanding (R26).
In HALT the DLC ends it STOPPED at once (R128), which aborts the wire (R41). -/
def State.beginOp (s : State) (h : HeadId) (p : Phase) (op : DriveOp) : State :=
  let x := s.head h
  let y := { x.leavePhase with phase := some p }
  if y.posOp.isSome then s.setHead h { y with heldOp := some op }
  else if s.cmc.mode = .halt then (s.setHead h y).haltHead h
  else (s.setHead h { y with posOp := some .current }).handOver (positioner h) op

/-- The z limit of a search (R28). -/
def searchLimit (z cw : Nat) : Nat := z - (cw + 500)

/-- The search phase of a bond begins (R28). -/
def State.enterSearch (s : State) (h : HeadId) (n : Snapshot) (b : Bond) : State :=
  s.beginOp h (match b with | .ball => .search1 | .stitch => .search2)
    (.search (searchLimit (n.height b) (n.set b).cw) 1)

/-- MOVE_1 begins (R27). -/
def State.enterMove (s : State) (h : HeadId) (n : Snapshot) : State := s.beginOp h .move1 (.move n.x1 n.y1)

/-- LOOP begins (R32). -/
def State.enterLoop (s : State) (h : HeadId) (n : Snapshot) : State :=
  s.beginOp h .loop (.loop n.loop.height n.loop.reverse n.loop.shape n.x2 n.y2)

/-- RAISE begins (R34). -/
def State.enterRaise (s : State) (h : HeadId) : State := s.beginOp h .raise .raise

/-- The bond takes a verdict of its search, and RAISE begins (R28, R29). -/
def State.searchFailed (s : State) (h : HeadId) (b : Bond) (v : Verdict) : State :=
  let x := s.head h
  (s.setHead h (x.setCapture b { x.capture b with verdict := some v })).enterRaise h

/-- The weld phase of a bond begins (R30, R50). -/
def State.enterWeld (s : State) (h : HeadId) (n : Snapshot) (b : Bond) : State :=
  let x := (s.head h).leavePhase
  let set := n.set b
  let power := n.power b
  s.setHead h
    { x.setCapture b { x.capture b with acc := .opened } with
      phase := some (match b with | .ball => .weld1 | .stitch => .weld2)
      force := set.force
      ultrasonic := if set.tPre = 0 then power.pEff else power.pPre
      shadow := power.pEff }

/-- The CONTACT edge in a search (R28, R29, R54, R81). -/
def State.contact (s : State) (h : HeadId) (n : Snapshot) (b : Bond) (z : Nat) : State :=
  let x := s.head h
  let y := x.setCapture b { x.capture b with zc := some z }
  let s1 := (s.setHead h { y with lastZc := some z, nCap := x.nCap + 1, contactWait := false }).judgeCap h
  if withinContactWindow z (n.height b) (n.set b).cw then s1.enterWeld h n b else s1.searchFailed h b .height

/-- The weld timer expires (R30, R52, R53) and the check begins (R31). -/
def State.weldExpired (s : State) (h : HeadId) (n : Snapshot) (b : Bond) (z : Nat) : State :=
  let x := s.head h
  let y := x.setCapture b ((x.capture b).expire (n.set b) z)
  s.setHead h
    { y with
      phase := some (match b with | .ball => .check1 | .stitch => .check2)
      force := 0, ultrasonic := 0, shadow := 0, lastZe := some z, checkRequest := true }

/-- SPARK begins: its first attempt (R36, R92). -/
def State.enterSpark (s : State) (h : HeadId) (source : SparkFrom) : State :=
  let x := (s.head h).leavePhase
  s.setHead h
    { x with phase := some .spark, sparkFrom := some source, sparkAttempts := 1, sparkRequest := true }

/-- The check ends (R31, R33, R55). -/
def State.checkEnded (s : State) (h : HeadId) (n : Snapshot) (b : Bond) (attached : Bool) : State :=
  let x := s.head h
  let y := x.setCapture b ((x.capture b).judge (n.set b) (n.power b) attached)
  let s1 := s.setHead h { y with checkRequest := false }
  match b, attached with
  | .ball, true => s1.enterLoop h n
  | .ball, false => s1.enterSpark h .ballLift
  | .stitch, true => s1.beginOp h .tail .tail
  | .stitch, false => s1.enterRaise h

/-- The spark has succeeded (R36). -/
def State.sparkSucceeded (s : State) (h : HeadId) (n : Snapshot) : State :=
  let x := { s.head h with sparkRequest := false }
  match x.sparkFrom with
  | some .restart =>
    (s.setHead h { x with restartSpark := false, sparkAttempts := 0, sparkFrom := none }).enterMove h n
  | _ => (s.setHead h x).endWire h (x.outcome n) false none

/-- A failed restart spark (R36): no record, the reservation returned, the unit kept, suspended with NO_TAIL. -/
def State.restartFailed (s : State) (h : HeadId) : State :=
  let x := (s.head h).quiet
  let s1 :=
    s.setHead h
      { x with phase := none, snapshot := none, heldOp := none, sparkAttempts := 0, sparkFrom := none, restartSpark := true }
  (s1.returnReservation (bondRegion h)).suspend h .noTail

/-- A spark attempt ended open: a retry, or the spark has failed (R36, R92). -/
def State.sparkOpen (s : State) (h : HeadId) (n : Snapshot) : State :=
  let x := s.head h
  if x.sparkAttempts < 1 + (s.config h).retries then
    s.setHead h { x with sparkAttempts := x.sparkAttempts + 1, sparkRequest := true }
  else
    match x.sparkFrom with
    | some .restart => s.restartFailed h
    | _ => (s.setHead h { x with sparkRequest := false }).endWire h (x.outcome n) true (some .noTail)

/-- The verdict of a bond whose search failed. -/
def searchVerdict (v : Option Verdict) : Bool := v == some .searchMiss || v == some .height

/-- The end of RAISE: after a ball failure as R29, after a stitch failure as R33. -/
def State.raiseEnded (s : State) (h : HeadId) : State :=
  if searchVerdict (s.head h).ball.verdict then s.endWire h .failed false none
  else s.endWire h .failed true (some .looseWire)

/-- A SEARCH ended DONE (R28): contact no is a miss, contact yes waits for the edge. -/
def State.searchDone (s : State) (h : HeadId) (b : Bond) (results : List Byte) : State :=
  if readsYes (results.headD 0) then s.setHead h { s.head h with contactWait := true }
  else s.searchFailed h b .searchMiss

/-- The operation of the current phase ended DONE (R27, R28, R32, R34, R35). -/
def State.phaseDone (s : State) (h : HeadId) (n : Snapshot) (p : Phase) (results : List Byte) : State :=
  match p with
  | .move1 => s.enterSearch h n .ball
  | .search1 => s.searchDone h .ball results
  | .loop => s.enterSearch h n .stitch
  | .search2 => s.searchDone h .stitch results
  | .tail => s.enterSpark h .tail
  | .raise => s.raiseEnded h
  | .weld1 | .check1 | .weld2 | .check2 | .spark => s

/-- The operation kept until the earlier one's completion is issued (R26). -/
def State.issueHeld (s : State) (h : HeadId) : State :=
  let x := s.head h
  match x.heldOp with
  | some op =>
    if s.cmc.mode = .halt then s.haltHead h
    else (s.setHead h { x with heldOp := none, posOp := some .current }).handOver (positioner h) op
  | none => s

/-- A completion of the head's positioner operation (R26). -/
def State.positionerEnded (s : State) (h : HeadId) (c : Completion) : State :=
  let x := s.head h
  let s1 := s.setHead h { x with posOp := none }
  match c with
  | .done results =>
    match x.posOp, x.state, x.snapshot, x.phase with
    | some .current, .active, some n, some p => s1.phaseDone h n p results
    | some .stale, .active, _, _ => s1.issueHeld h
    | _, _, _, _ => s1
  | .stopped => s1.haltHead h
  | .fault | .timeout | .noAnswer => if x.state = .active then s1.driveFault h else s1

/-! ## Wire start (R15, R24, R25) -/

/-- Origin of a unit (R6). -/
def unitOrigin (l : Layout) (row col : Nat) : Int × Int :=
  (l.ox + ((col : Int) - 1) * l.px, l.oy + ((row : Int) - 1) * l.py)

/-- The target of one point, in signed 32-bit arithmetic (R15). -/
def targetOf (l : Layout) (row col : Nat) (x y hx hy : Int) : Int × Int :=
  (wrap32 ((unitOrigin l row col).1 + x - hx), wrap32 ((unitOrigin l row col).2 + y - hy))

/-- Entry of an indexed item. -/
def wireEntry (rs : RecipeStore) (i : Nat) : WireEntry := ((rs.wires[i - 1]?).map (·.item)).getD .zero
/-- Bond set of an index. -/
def bondSet (rs : RecipeStore) (i : Nat) : BondSet := ((rs.sets[i]?).map (·.item)).getD .zero
/-- Loop profile of an index. -/
def loopProfile (rs : RecipeStore) (i : Nat) : LoopProfile := ((rs.loops[i]?).map (·.item)).getD .zero

/-- The wire context snapshot (R25, R48, R50). -/
def takeSnapshot (rs : RecipeStore) (cfg : HeadConfig) (u : UnitRef) (wire nCap : Nat) : Snapshot :=
  let e := wireEntry rs wire
  let ballSet := bondSet rs e.ballSet
  let stitchSet := bondSet rs e.stitchSet
  let m := wearSteps nCap
  let t1 := targetOf rs.layout.item u.row u.col e.x1 e.y1 cfg.hx cfg.hy
  let t2 := targetOf rs.layout.item u.row u.col e.x2 e.y2 cfg.hx cfg.hy
  { unit := u, wire := wire, entry := e, ballSet := ballSet, stitchSet := stitchSet,
    loop := loopProfile rs e.loop, x1 := t1.1, y1 := t1.2, x2 := t2.1, y2 := t2.2, capStart := nCap, m := m,
    ball := powerOf ballSet cfg m, stitch := powerOf stitchSet cfg m }

/-- The wire starts with its reservation granted (R25). -/
def State.startWire (s : State) (h : HeadId) (u : UnitRef) : State :=
  let x := s.head h
  let n := takeSnapshot s.rs (s.config h) u x.wireIndex x.nCap
  let s1 :=
    s.setHead h
      { x with
        snapshot := some n, wireFeed := 0, ball := .clear, stitch := .clear, state := .active, gate := none }
  if x.restartSpark then s1.enterSpark h .restart else s1.enterMove h n

/-- The head waits at RECORD (R24). -/
def State.waitForRoom (s : State) (h : HeadId) : State := s.setHead h { s.head h with gate := some .record }

/-- The reservation asked for, or not asked for while the region has refused it and not told of room (R24, R150). -/
def State.askRoom (s : State) (h : HeadId) (u : UnitRef) : State :=
  if s.refused (bondRegion h) then s.waitForRoom h
  else
    match s.reserve (bondRegion h) with
    | (s1, true) => s1.startWire h u
    | (s1, false) => s1.waitForRoom h

/-- The consumable tests and the reservation, gates 1 to 5 having passed (R24). -/
def State.tryWire (s : State) (h : HeadId) (u : UnitRef) : State :=
  match s.consumableReason h with
  | some why => s.suspend h why
  | none => s.askRoom h u

/-! ## Resume (R44, R93) -/

/-- The reason's effect (R44, R93). -/
def State.resumeEffect (s : State) (h : HeadId) (why : Reason) : State :=
  match why with
  | .capLife =>
    ((s.setHead h { s.head h with nCap := 0 }).rearmCap h).writeEvent .capChanged (sourceHead h) 0
  | .spoolEmpty =>
    let full := (s.config h).fullPulses
    ((s.setHead h { s.head h with spool := full }).rearmSpool h).writeEvent .spoolLoaded (sourceHead h) full
  | .liftLimit => s.setHead h { s.head h with failCount := 0 }
  | .looseWire | .wireBreak | .noTail | .drive => s

/-- The state a resumed head takes. -/
def Head.resumed (x : Head) : HeadState := if x.unit.isSome || x.wantsBand then .ready else .idle

/-- A taken resume (R44, R93). -/
def State.resume (s : State) (h : HeadId) (why : Reason) : State :=
  let s1 := s.resumeEffect h why
  let state := (s1.head h).resumed
  let s2 := (s1.setHead h { s1.head h with reason := none, state := state }).removePrompt .headStop (headNo h)
  let s3 := (s2.handNotice (.head h state none)).writeEvent .headResumed (sourceHead h) why.code
  if state = .ready then s3.testHeadGates h else s3.enterIdle h

/-- The refusals of a resume (R44): none when it is taken. -/
def Head.resumeRefusal (x : Head) : Option Payload :=
  if x.state ≠ .suspended then some (refusal .wrongMode 0)
  else if x.wireBreak then some (refusal .conflict 1)
  else if x.posOp.isSome then some (refusal .conflict 2)
  else none

end Sys2Proof.Machine
end

