-- ==== Sys2Proof/Machine/TrackBase.lean ====
section
/-! DEFINITION. Track Controller, first part (6.1, 6.2, 6.5): the stopped set, scans of the input magazine, SET_TEMP and the
heat, and what the TRC does when it is told a change of mode. -/

namespace Sys2Proof.Machine

open Sys2Proof

/-! ## The stopped set (R110) -/

/-- Items of the stopped set. -/
inductive StopItem | input | sequence | output
deriving DecidableEq, Repr

/-- Source of the TRC's DRIVE_STOP prompt (R172). -/
def promptTrack : Nat := 3
/-- Source of the PSC's DRIVE_STOP prompt (R172). -/
def promptPull : Nat := 4

/-- The TRC with an item in or out of the stopped set. -/
def Trc.setStop (t : Trc) (i : StopItem) (b : Bool) : Trc :=
  match i with
  | .input => { t with stopInput := b }
  | .sequence => { t with stopSequence := b }
  | .output => { t with stopOutput := b }

/-- An item joins the stopped set (R110); the feed is tested, as the stopped set changed (R100). -/
def State.joinStopped (s : State) (i : StopItem) : State :=
  let raised := s.trc.driveStopRaised
  let s1 := s.setTrc { s.trc.setStop i true with driveStopRaised := true }
  (if raised then s1 else s1.raisePrompt .driveStop promptTrack 0).testFeed

/-! ## Scans (R98, R99) -/

/-- State of an input slot. -/
def InMag.slot (m : InMag) (k : Nat) : InSlot := (m.slots[k - 1]?).getD .unknown
/-- The magazine with one slot changed. -/
def InMag.setSlot (m : InMag) (k : Nat) (x : InSlot) : InMag := { m with slots := m.slots.setIfInBounds (k - 1) x }
/-- The slots of the magazine in ascending order. -/
def InMag.slotNumbers (m : InMag) : List Nat := List.range' 1 m.count
/-- Number of LOADED slots. -/
def InMag.loaded (m : InMag) : Nat := (m.slotNumbers.filter fun k => m.slot k == .loaded).length
/-- The LOADED slot with the lowest number (R100). -/
def InMag.lowestLoaded (m : InMag) : Option Nat := m.slotNumbers.find? fun k => m.slot k == .loaded
/-- The first slot from a number on that a scan visits: TAKEN slots are passed over (R98). -/
def InMag.scanFrom (m : InMag) (k : Nat) : Option Nat :=
  m.slotNumbers.find? fun j => decide (k ≤ j) && m.slot j != .taken

/-- The magazine found with no LOADED slot (R98, R101). -/
def State.exhaustInput (s : State) : State :=
  ((s.setTrc { s.trc with inMag := { s.trc.inMag with state := .exhausted, scanSlot := none } }).raisePrompt
    .inputChange 0 0).setCondition .inputExhausted

/-- The end of a scan (R98). -/
def State.scanEnd (s : State) : State :=
  let m := s.trc.inMag
  let s1 :=
    if m.loaded = 0 then s.exhaustInput
    else
      (s.setTrc { s.trc with inMag := { m with state := .ready, scanSlot := none } }).removePrompt .inputChange 0
  (s1.writeEvent .magInLoaded sourceTrc (argHalves m.number m.loaded)).testFeed

/-- SCAN of the slot being scanned, issued at the input elevator. -/
def State.issueScan (s : State) (k : Nat) : State :=
  (s.setTrc { s.trc with inOp := some .scan, scanHeld := false }).handOver .inElevator (.scan k)

/-- A SCAN ended STOPPED (R99): the scan is abandoned and a rescan wanted. -/
def State.scanStopped (s : State) : State :=
  s.setTrc
    { s.trc with
      inMag := { s.trc.inMag with state := .fault, scanSlot := none }, rescanWanted := true, scanHeld := false }

/-- The scan goes on from a slot number, or ends. In HALT the DLC ends the SCAN STOPPED at once (R128). -/
def State.scanOn (s : State) (k : Nat) : State :=
  match s.trc.inMag.scanFrom k with
  | none => s.scanEnd
  | some j =>
    let s1 := s.setTrc { s.trc with inMag := { s.trc.inMag with scanSlot := some j } }
    if s.cmc.mode = .halt then s1.scanStopped else s1.issueScan j

/-- A scan starts over the slots that are not TAKEN (R98). While an operation of the elevator is outstanding its first SCAN
is kept, and a SCAN of a scan still running is abandoned. With every slot TAKEN the scan ends at once (log 29). -/
def State.startScan (s : State) : State :=
  let m := s.trc.inMag
  let slots := m.slots.map fun x => if x = .taken then .taken else .unknown
  let s1 := s.setTrc { s.trc with inMag := { m with state := .scanning, slots := slots } }
  match s1.trc.inMag.scanFrom 1 with
  | none => s1.scanEnd
  | some j =>
    let s2 := s1.setTrc { s1.trc with inMag := { s1.trc.inMag with scanSlot := some j } }
    match s2.trc.inOp with
    | none => s2.issueScan j
    | some op =>
      s2.setTrc { s2.trc with inOp := some (if op = .push then .push else .staleScan), scanHeld := true }

/-- The kept first SCAN is issued once the elevator's earlier operation has ended (R98). -/
def State.issueHeldScan (s : State) : State :=
  if s.trc.scanHeld then
    match s.trc.inMag.scanSlot with
    | some j => if s.cmc.mode = .halt then s.scanStopped else s.issueScan j
    | none => s.setTrc { s.trc with scanHeld := false }
  else s

/-! ## SET_TEMP and the heat (R105, R106) -/

/-- SET_TEMP with a setpoint handed to the work holder. -/
def State.issueSetTemp (s : State) (setpoint : Nat) : State :=
  (s.setTrc { s.trc with setTempOut := true }).handOver .workHolder (.setTemp setpoint)

/-- SET_TEMP with the setpoint in force: issued at once, or waiting behind the one still outstanding (R106, log 31). In HALT
it ends STOPPED at once (R128). -/
def State.sendSetTemp (s : State) : State :=
  let setpoint := s.rs.track.item.setpoint
  if s.cmc.mode = .halt then s
  else if s.trc.setTempOut then s.setTrc { s.trc with setTempWaiting := s.trc.setTempWaiting ++ [setpoint] }
  else s.issueSetTemp setpoint

/-- The reported temperature is in band (R105). -/
def inBandOf (cfg : TrackConfig) (t : Nat) : Bool :=
  decide ((if t ≤ cfg.setpoint then cfg.setpoint - t else t - cfg.setpoint) ≤ cfg.band)

/-- A temperature report (R105). -/
def State.tempReport (s : State) (t : Nat) : State :=
  let s1 := s.setTrc { s.trc with lastTemp := t }
  match s.trc.heat, inBandOf s.rs.track.item t with
  | .unknown, true => (s1.setTrc { s1.trc with heat := .inBand }).testBothHeads
  | .unknown, false => s1.setTrc { s1.trc with heat := .outOfBand }
  | .inBand, true => s1
  | .inBand, false =>
    ((((s1.setTrc { s1.trc with heat := .outOfBand }).testBothHeads).setCondition .tempOut).raisePrompt
      .tempOut 0 0).writeEvent .tempOut sourceTrc t
  | .outOfBand, true =>
    (((s1.setTrc { s1.trc with heat := .inBand }).testBothHeads).removePrompt .tempOut 0).writeEvent
      .tempIn sourceTrc t
  | .outOfBand, false => s1

/-- A track configuration taken (R14, R105, R106). -/
def State.trackConfigTaken (s : State) : State :=
  (((s.setTrc { s.trc with heat := .unknown }).testBothHeads).removePrompt .tempOut 0).sendSetTemp

/-! ## Change of mode (R111, R115) -/

/-- The rescan when HALT is left (R111). -/
def State.leaveHaltScan (s : State) : State :=
  let s1 := s.setTrc { s.trc with rescanWanted := false }
  if s.trc.rescanWanted ∧ s.trc.inMag.state ≠ .absent then s1.startScan else s1

/-- The TRC is told a change of mode other than to HALT (R115). -/
def State.tellTrack (s : State) (old new : Mode) : State :=
  let s1 := if new = .run then s.sendSetTemp else s
  (if old = .halt then s1.leaveHaltScan else s1).testFeed

end Sys2Proof.Machine
end

