-- ==== Sys2Proof/Machine/Cell.lean ====
section
/-! DEFINITION. Cell Mode Controller (chapter 11): changes of mode other than to HALT, the lot close test, the quality hold. -/

namespace Sys2Proof.Machine

open Sys2Proof

/-- The lot close test (R185). -/
def State.lotCloseTest (s : State) : State :=
  if s.cmc.lot = .closing ∧ s.cmc.mode = .setup ∧ s.trackEmpty ∧ s.psc.queue = [] then
    let s1 := (s.setCmc { s.cmc with lot := .none }).setTrc { s.trc with maps := [] }
    ((s1.writeEvent .lotEnd sourceCmc s1.cmc.lotId).handNotice (.lot .none s.cmc.lotId)).testFeed
  else s

/-- A head is told a change of mode (R22, R23). -/
def State.tellHead (s : State) (h : HeadId) : State := (s.askIfIdle h).testHeadGates h

/-- A change of mode to SETUP, RUN or DRAIN (R179, R183); HALT is entered by State.enterHalt. The tests of DRAIN completion
and of the sequence start are the commands DRAIN_COMPLETE and TRACK_SEQUENCE_START (log 1). -/
def State.changeMode (s : State) (new : Mode) (cause : Nat) : State :=
  let old := s.cmc.mode
  let s1 := s.setCmc { s.cmc with mode := new, cause := cause }
  let s2 := if old = .halt then s1.removePrompt .haltActive 0 else s1
  let s3 := ((((s2.tellHead .a).tellHead .b).tellTrack old new).testPullGates).writeEvent
    .modeChange sourceCmc (argBytes 0 0 old.code new.code)
  let s4 := s3.handNotice (.mode new old cause)
  if new = .setup then s4.lotCloseTest else s4

/-- Cause byte of a hold (R186, R191). -/
def HoldCause.code : HoldCause → Nat
  | .pull _ => 1
  | .host => 2

/-- Pull serial of a hold, 0 for HOST (R186). -/
def HoldCause.serial : HoldCause → Nat
  | .pull n => n
  | .host => 0

/-- A setting of the quality hold (R186). -/
def State.setQualityHold (s : State) (cause : HoldCause) : State :=
  match s.cmc.hold with
  | some _ => s
  | none =>
    let s1 := s.setCmc { s.cmc with hold := some cause }
    let s2 := if s.cmc.mode = .run then s1.changeMode .drain 2 else s1
    let s3 := s2.raisePrompt .qualityHold 0 0
    let s4 := s3.handNotice (.hold 1 cause.code cause.serial)
    let s5 := s4.setCondition .holdSet
    let s6 := s5.writeEvent .holdSet sourceCmc
      (argBytes cause.code (cause.serial / 65536) (cause.serial / 256) cause.serial)
    s6.testBothHeads

/-- A clearing of the quality hold with its clearing cause: 1 CLEAR_HOLD, 2 ACK (R187). -/
def State.clearQualityHold (s : State) (cause : Nat) : State :=
  match s.cmc.hold with
  | none => s
  | some _ =>
    let s1 := (s.setCmc { s.cmc with hold := none }).removePrompt .qualityHold 0
    let s2 := s1.handNotice (.hold 0 cause 0)
    (s2.writeEvent .holdCleared sourceCmc (argBytes cause 0 0 0)).testBothHeads

end Sys2Proof.Machine
end

