-- ==== Sys2Proof/Machine/Pull.lean ====
section
/-! DEFINITION. Pull Station Controller (chapter 8): service of the strip at VERIFY, a pull and its end, the classification
queue, the lot pull statistics. -/

namespace Sys2Proof.Machine

open Sys2Proof

/-! ## Serving the strip at VERIFY (R133) -/

/-- Pulls done reported to the TRC; the station returns to IDLE (R133). -/
def State.pullsDone (s : State) : State :=
  (s.setPsc { s.psc with state := .idle, gate := none, strip := none, listLength := 0, next := 0, flight := none }).setTrc
    { s.trc with pullsDone := true }

/-- The station goes on at its next entry, or has worked through the list (R133, R136, R138). -/
def State.nextPull (s : State) : State :=
  if s.psc.listLength < s.psc.next then s.pullsDone
  else (s.setPsc { s.psc with state := .waiting, gate := none, flight := none }).testPullGates

/-- The pull list of a strip; empty when absent. -/
def State.pullListOf (s : State) (serial : Nat) : List PullEntry := ((s.stripOf serial).bind (·.pullList)).getD []

/-- The hand-over of a strip to the PSC (R133). -/
def State.handStrip (s : State) (serial : Nat) : State :=
  (s.setPsc
    { s.psc with
      strip := some serial, listLength := (s.pullListOf serial).length, next := 1, flight := none }).nextPull

/-! ## Making a pull (R134, R135) -/

/-- The hook position of a wire of a unit (R135). -/
def hookOf (rs : RecipeStore) (e : PullEntry) : Int × Int :=
  let w := wireEntry rs e.wire
  let o := unitOrigin rs.layout.item e.row e.col
  (o.1 + (w.x1 + w.x2) / 2, o.2 + (w.y1 + w.y2) / 2)

/-- The entry at next entry. -/
def State.nextEntry (s : State) : Option PullEntry :=
  match s.psc.strip with
  | some serial => (s.pullListOf serial)[s.psc.next - 1]?
  | none => none

/-- The reservation asked for, gates 1 and 2 having passed, and the PULL handed over (R134, R135). -/
def State.tryPull (s : State) (e : PullEntry) : State :=
  match s.reserve .pull with
  | (s1, true) =>
    let hook := hookOf s1.rs e
    (s1.setPsc { s1.psc with state := .pulling, gate := none, flight := some ⟨e, hook.1, hook.2⟩ }).handOver .pull
      (.pull hook.1 hook.2)
  | (s1, false) => s1.setPsc { s1.psc with gate := some .record }

/-! ## The end of a pull (R136, R137, R139) -/

/-- The station advances one entry (R136, R137). -/
def State.advancePull (s : State) : State := s.setPsc { s.psc with next := s.psc.next + 1 }

/-- A staged record joins the classification queue (R140). -/
def State.stage (s : State) (p : Staged) : State :=
  let s1 := s.setPsc { s.psc with queue := s.psc.queue ++ [p] }
  if s.psc.queue = [] then s1.raisePrompt .classifyPending 0 0 else s1

/-- The PULL ended DONE (R136). -/
def State.pullMade (s : State) (f : Flight) (results : List Byte) : State :=
  let e := f.entry
  let force := beNat (results.take 2)
  let strip := s.psc.strip.getD 0
  let serial := s.psc.counter + 1
  let fails := decide (force < s.rs.plan.fMin)
  let s1 := (s.pulledReport strip e).setPsc { s.psc with counter := serial, flight := none }
  let s2 := s1.stage
    { serial := serial, strip := strip, entry := e, force := force, breakHeight := beNat (results.drop 2),
      time := s.cmc.cellTime, provisionalFail := fails }
  let s3 := if fails then s2.setQualityHold (.pull serial) else s2
  s3.advancePull.nextPull

/-- The NO_PULL record of a failed pull (R137). -/
def noPullRecord (strip : Nat) (e : PullEntry) (time serial : Nat) : PullRecord :=
  { serial := serial, strip := strip, entry := e, mode := 0, verdict := .noPull, classifier := .none, force := 0,
    breakHeight := 0, pullTime := time, classifyTime := 0, lotNumber := 0 }

/-- The PULL ended FAULT, TIMEOUT or NO_ANSWER (R137). -/
def State.pullFailed (s : State) (f : Flight) : State :=
  let e := f.entry
  let strip := s.psc.strip.getD 0
  let s1 := (s.pulledReport strip e).commit .pull fun k => .pull (noPullRecord strip e s.cmc.cellTime k)
  let s2 := s1.setPsc { s1.psc with stats := { s1.psc.stats with noPull := s1.psc.stats.noPull + 1 } }
  let s3 := s2.advancePull
  (s3.setPsc { s3.psc with state := .stopped, gate := none, flight := none }).raisePrompt .driveStop promptPull 0

/-- HALT or STOPPED taken by the station (R139): only a pull in flight is abandoned. -/
def State.haltPull (s : State) : State :=
  if s.psc.state = .pulling then
    let s1 := (s.setPsc { s.psc with state := .waiting, gate := none, flight := none }).returnReservation .pull
    s1.testPullGates
  else s

/-- A completion of the pull drive (R136, R137, R139). -/
def State.pullEnded (s : State) (c : Completion) : State :=
  match s.psc.state, s.psc.flight with
  | .pulling, some f =>
    match c with
    | .done results => s.pullMade f results
    | .fault | .timeout | .noAnswer => s.pullFailed f
    | .stopped => s.haltPull
  | _, _ => s

/-- The ACK of DRIVE_STOP with source PULL (R138). -/
def State.ackPull (s : State) : State := if s.psc.state = .stopped then s.nextPull else s

/-! ## Classification (R141, R145) -/

/-- The mode is in the acceptance set (R10). -/
def Plan.accepts (p : Plan) (mode : Nat) : Bool := p.accept.getLsbD (mode - 1)

/-- The final verdict passes (R141). -/
def finalPass (p : Plan) (x : Staged) (mode : Nat) : Bool := decide (p.fMin ≤ x.force) && p.accepts mode

/-- The pull record of a classification (R141). -/
def pullRecordOf (x : Staged) (mode : Nat) (pass : Bool) (by' : Classifier) (time serial : Nat) : PullRecord :=
  { serial := serial, strip := x.strip, entry := x.entry, mode := mode, verdict := if pass then .pass else .fail,
    classifier := by', force := x.force, breakHeight := x.breakHeight, pullTime := x.time, classifyTime := time,
    lotNumber := min x.serial 65535 }

/-- The statistics with one final result added (R145). -/
def PullStats.add (t : PullStats) (pass : Bool) (force : Nat) : PullStats :=
  { t with
    count := t.count + 1
    pass := if pass then t.pass + 1 else t.pass
    fail := if pass then t.fail else t.fail + 1
    sum := Nat.min 4294967295 (t.sum + force)
    saturated := t.saturated || decide (4294967295 < t.sum + force)
    min := if t.count = 0 then force else Nat.min t.min force
    max := Nat.max t.max force }

/-- A record leaves the classification queue (R140). -/
def State.unstage (s : State) (serial : Nat) : State :=
  let queue := s.psc.queue.filter fun p => p.serial != serial
  let s1 := s.setPsc { s.psc with queue := queue }
  let s2 := if queue = [] then (s1.removePrompt .classifyPending 0).lotCloseTest else s1
  if s2.psc.gate = some .queue then s2.testPullGates else s2

/-- The record of the queue with a pull serial. -/
def State.staged (s : State) (serial : Nat) : Option Staged := s.psc.queue.find? fun p => p.serial == serial

/-- A classification taken (R141). -/
def State.classifyPull (s : State) (x : Staged) (mode : Nat) (by' : Classifier) : State :=
  let pass := finalPass s.rs.plan x mode
  let s1 := s.commit .pull fun k => .pull (pullRecordOf x mode pass by' s.cmc.cellTime k)
  let s2 := s1.unstage x.serial
  let s3 := s2.setPsc { s2.psc with stats := s2.psc.stats.add pass x.force }
  if pass then s3 else s3.setQualityHold (.pull x.serial)

end Sys2Proof.Machine
end

