-- ==== Sys2Proof/Machine/Track.lean ====
section
/-! DEFINITION. Track Controller, second part (6.3 to 6.8): feeding and pushes, magazine reports, the track sequence, HALT,
stores, and the ACK of DRIVE_STOP. -/

namespace Sys2Proof.Machine

open Sys2Proof

/-! ## The input magazine (R97) -/

/-- The next magazine number: from 255 to 1 (R97, R112). -/
def nextMagazine (n : Nat) : Nat := if n < 255 then n + 1 else 1

/-- A presence report of the input elevator (R97). -/
def State.inputPresence (s : State) (present : Bool) : State :=
  let m := s.trc.inMag
  match present, decide (m.state = .absent) with
  | true, true =>
    let s1 :=
      s.setTrc
        { s.trc with
          inMag :=
            { state := .fault, number := nextMagazine m.number, count := s.rs.track.item.inSlots,
              slots := Vector.replicate 64 .unknown, scanSlot := none } }
    if s.cmc.mode = .halt then s1.setTrc { s1.trc with rescanWanted := true } else s1.startScan
  | false, false =>
    let s1 :=
      s.setTrc
        { s.trc with
          inMag := { m with state := .absent, slots := Vector.replicate 64 .unknown, scanSlot := none }
          inOp := s.trc.inOp.map fun op => if op = .push then .push else .staleScan
          scanHeld := false, stopInput := false, rescanWanted := false
          maps := s.trc.maps.filter fun e => e.mag != m.number }
    (s1.writeEvent .magInRemoved sourceTrc (argHalves m.number m.loaded)).testFeed
  | _, _ => s

/-! ## Feeding (R100 to R102) -/

/-- The reservation asked for, gates 1 to 6 having passed, and the PUSH handed over (R100). -/
def State.tryFeed (s : State) (slot : Nat) : State :=
  match s.reserve .strip with
  | (s1, true) =>
    ((s1.setTrc
      { s1.trc with push := some (s1.trc.inMag.number, slot), inOp := some .push }).handOver .inElevator
        (.push slot)).testFeed
  | (s1, false) => s1.setTrc { s1.trc with feedGate := some .record }

/-- The magazine is still present under a number. -/
def State.inputStill (s : State) (mag : Nat) : Bool := s.trc.inMag.state != .absent && s.trc.inMag.number == mag

/-- The strip map entry of a magazine and slot. -/
def Trc.mapFor (t : Trc) (mag slot : Nat) : Option StripMap := t.maps.find? fun e => e.mag == mag && e.slot == slot

/-- The end of a push told to the CMC and the feed (R100, R115). -/
def State.pushOver (s : State) : State := s.lotCloseTest.testFeed

/-- The serial limit reported to the CMC (R100, R181). -/
def State.serialLimit (s : State) : State :=
  if 65535 ≤ s.stu.fed ∧ s.cmc.mode = .run then s.changeMode .drain 4 else s

/-- The PUSH ended DONE (R101). -/
def State.pushDone (s : State) (mag slot : Nat) : State :=
  let still := s.inputStill mag
  let entry := s.trc.mapFor mag slot
  let s1 :=
    s.setTrc
      { s.trc with
        inMag := if still then s.trc.inMag.setSlot slot .taken else s.trc.inMag
        maps := s.trc.maps.filter fun e => !(e.mag == mag && e.slot == slot) }
  let s2 := s1.createRecord mag slot (entry.map (·.bad))
  let s3 := s2.handNotice (.strip false s2.stu.fed mag slot)
  let s4 := if still ∧ s3.trc.inMag.loaded = 0 then s3.exhaustInput else s3
  (s4.setTrc { s4.trc with push := none }).pushOver.serialLimit

/-- A PUSH ended without a strip (R102): the reservation returned, the slot JAMMED, the magazine FAULT. -/
def State.pushLost (s : State) (mag slot : Nat) (stopped : Bool) : State :=
  let s1 := (s.setTrc { s.trc with push := none }).returnReservation .strip
  let s2 :=
    if s1.inputStill mag then
      let m := s1.trc.inMag.setSlot slot .jammed
      s1.setTrc
        { s1.trc with
          inMag := { m with state := .fault, scanSlot := none }
          scanHeld := false, rescanWanted := s1.trc.rescanWanted || stopped }
    else s1
  (if stopped then s2 else s2.joinStopped .input).pushOver

/-- The outstanding PUSH ended (R101, R102, log 27). -/
def State.pushEnded (s : State) (c : Completion) : State :=
  match s.trc.push with
  | none => s
  | some (mag, slot) =>
    match c with
    | .done _ => s.pushDone mag slot
    | .fault | .timeout | .noAnswer => s.pushLost mag slot false
    | .stopped => s.pushLost mag slot true

/-- The SCAN of the running scan ended (R98, R99). -/
def State.scanEnded (s : State) (c : Completion) : State :=
  match s.trc.inMag.scanSlot with
  | none => s
  | some k =>
    match c with
    | .done results =>
      let x : InSlot := if readsYes (results.headD 0) then .loaded else .empty
      (s.setTrc { s.trc with inMag := s.trc.inMag.setSlot k x }).scanOn (k + 1)
    | .fault | .timeout | .noAnswer =>
      (s.setTrc { s.trc with inMag := { s.trc.inMag with state := .fault, scanSlot := none } }).joinStopped .input
    | .stopped => s.scanStopped

/-- A completion of the input elevator (R98 to R102). -/
def State.inElevatorEnded (s : State) (c : Completion) : State :=
  let s1 := s.setTrc { s.trc with inOp := none }
  match s.trc.inOp with
  | none => s1
  | some .scan => s1.scanEnded c
  | some .staleScan => s1.issueHeldScan
  | some .push => (s1.pushEnded c).issueHeldScan

/-! ## The output magazine and stores (R112 to R114) -/

/-- State of an output slot. -/
def OutMag.slot (m : OutMag) (k : Nat) : OutSlot := (m.slots[k - 1]?).getD .unknown
/-- The magazine with one slot changed. -/
def OutMag.setSlot (m : OutMag) (k : Nat) (x : OutSlot) : OutMag := { m with slots := m.slots.setIfInBounds (k - 1) x }
/-- The EMPTY slot with the lowest number (R113). -/
def OutMag.lowestEmpty (m : OutMag) : Option Nat := (List.range' 1 m.count).find? fun k => m.slot k == .empty
/-- The slot is FILLED. -/
def OutSlot.isFilled : OutSlot → Bool
  | .filled _ => true
  | _ => false
/-- Number of FILLED slots. -/
def OutMag.filledCount (m : OutMag) : Nat := ((List.range' 1 m.count).filter fun k => (m.slot k).isFilled).length

/-- The test that asks for an output magazine (R113): a strip at EXIT, no store outstanding, no EMPTY slot. OUTPUT_FULL is
set whether or not the prompt already stands (log 26). -/
def State.outputPromptTest (s : State) : State :=
  if s.occupied .exit ∧ s.trc.store = none ∧ s.trc.outMag.state ≠ .ready then
    (s.raisePrompt .outputChange 0 0).setCondition .outputFull
  else s

/-- A presence report of the output elevator (R112); slots above the count stay UNKNOWN (log 33). -/
def State.outputPresence (s : State) (present : Bool) : State :=
  let m := s.trc.outMag
  match present, decide (m.state = .absent) with
  | true, true =>
    let count := s.rs.track.item.outSlots
    let number := nextMagazine m.number
    let s1 :=
      s.setTrc
        { s.trc with
          outMag :=
            { state := .ready, number := number, count := count,
              slots := Vector.ofFn fun i => if i.val < count then .empty else .unknown } }
    (s1.removePrompt .outputChange 0).writeEvent .magOutReplaced sourceTrc number
  | false, false =>
    (s.setTrc
      { s.trc with outMag := { m with state := .absent, slots := Vector.replicate 64 .unknown } }).outputPromptTest
  | _, _ => s

/-- A slot of the output magazine filled or jammed, if the magazine is still present under the store's number; FULL when no
EMPTY slot is left (R112). -/
def State.useOutSlot (s : State) (mag slot : Nat) (x : OutSlot) : State :=
  if s.trc.outMag.state ≠ .absent ∧ s.trc.outMag.number = mag then
    let m := s.trc.outMag.setSlot slot x
    if m.lowestEmpty = none then
      (s.setTrc { s.trc with outMag := { m with state := .full } }).writeEvent .magOutFull sourceTrc
        (argHalves m.number m.filledCount)
    else s.setTrc { s.trc with outMag := m }
  else s

/-- The STORE ended DONE (R78, R113). -/
def State.storeDone (s : State) (mag slot : Nat) : State :=
  match s.stripAt .exit with
  | none => s.setTrc { s.trc with store := none }
  | some r =>
    let s1 := (s.setTrc { s.trc with store := none }).useOutSlot mag slot (.filled r.serial)
    let done : StripRecord := { r with out := some (mag, slot), timeStored := s.cmc.cellTime }
    let s2 := s1.commit .strip fun k => .strip { serial := k, lotId := s.cmc.lotId, record := done }
    let s3 := s2.setStu { s2.stu with strips := s2.stu.strips.filter fun x => x.station != .exit }
    (s3.handNotice (.strip true r.serial mag slot)).lotCloseTest

/-- The STORE ended without storing (R114): the slot JAMMED; the output prompt is tested when the store failed, not when it
was STOPPED (log 25). -/
def State.storeLost (s : State) (mag slot : Nat) (stopped : Bool) : State :=
  let s1 := (s.setTrc { s.trc with store := none }).useOutSlot mag slot .jammed
  if stopped then s1 else (s1.joinStopped .output).outputPromptTest

/-- A completion of the output elevator (R113, R114). -/
def State.outElevatorEnded (s : State) (c : Completion) : State :=
  match s.trc.store with
  | none => s
  | some (mag, slot) =>
    match c with
    | .done _ => s.storeDone mag slot
    | .fault | .timeout | .noAnswer => s.storeLost mag slot false
    | .stopped => s.storeLost mag slot true

/-! ## The track sequence (R108 to R111) -/

/-- No head is ACTIVE. -/
def State.noHeadActive (s : State) : Bool := s.heads.a.state != .active && s.heads.b.state != .active

/-- The conditions of R108. -/
def State.sequenceReady (s : State) : Bool :=
  s.working && s.trc.seq == .idle && !s.trc.stopSequence && !s.occupied .exit &&
    (s.occupied .load || s.occupied .preheat || s.occupied .bond || s.occupied .verify) &&
    s.trc.push.isNone && s.noHeadActive &&
    (match s.stripAt .bond with | some r => r.complete | none => true) &&
    (!s.occupied .verify || s.trc.pullsDone) && (!s.occupied .preheat || s.trc.dwell == .done) &&
    s.psc.state != .pulling

/-- The reclamp of R109 is due. -/
def State.reclampDue (s : State) : Bool :=
  s.working && s.trc.seq == .idle && !s.trc.stopSequence && s.occupied .bond && s.trc.clamp != .closed &&
    !s.sequenceReady

/-- The operation of a step. -/
def stepOp : SeqState → DriveOp
  | .unclamp => .unclamp
  | .clamp => .clamp
  | .index | .idle => .index

/-- A step issued at the indexer: the track is MOVING in that step (R108, R109). -/
def State.issueStep (s : State) (step : SeqState) : State :=
  (s.setTrc { s.trc with seq := step, seqStopped := false }).handOver .indexer (stepOp step)

/-- A strip at VERIFY with handed over clear is handed to the PSC (R109, R111, R133). -/
def State.handAtVerify (s : State) : State :=
  match s.stripAt .verify with
  | some r => if s.trc.handedOver then s else (s.setTrc { s.trc with handedOver := true }).handStrip r.serial
  | none => s

/-- Dwell of the strip now at PREHEAT (R107). -/
def State.startDwell (s : State) : Dwell :=
  if s.occupied .preheat then
    if s.rs.track.item.dwell = 0 then .done else .running ((s.cmc.cellTime + s.rs.track.item.dwell) % 4294967296)
  else .none

/-- An index has taken place (R109, R111): the report to the STU, the dwell, the marks of VERIFY (log 32), the feed test as a
record may have left LOAD (R100), and the output prompt test of a strip now at EXIT (R113). -/
def State.indexed (s : State) : State :=
  let s1 := s.indexReport
  (s1.setTrc
    { s1.trc with dwell := s1.startDwell, handedOver := false, pullsDone := false }).testFeed.outputPromptTest

/-- The track becomes IDLE (R109): the clamp is reported to the heads, a strip at VERIFY handed over, the feed tested. -/
def State.trackIdle (s : State) : State :=
  ((s.setTrc { s.trc with seq := .idle, seqStopped := false }).testBothHeads.handAtVerify).testFeed

/-- A step ended DONE (R109). -/
def State.stepDone (s : State) (step : SeqState) : State :=
  match step with
  | .idle => s
  | .unclamp => (s.setTrc { s.trc with clamp := .opened }).issueStep .index
  | .index =>
    let s1 := (s.setTrc { s.trc with clamp := .opened }).indexed
    if s1.occupied .bond then s1.issueStep .clamp else s1.trackIdle
  | .clamp => (s.setTrc { s.trc with clamp := .closed }).trackIdle

/-- HALT or STOPPED taken by the TRC (R111); a second taking changes nothing. -/
def State.abandonSequence (s : State) : State :=
  let s1 := if s.trc.seq = .index ∧ s.trc.seqStopped = false then s.indexed else s
  (s1.setTrc { s1.trc with clamp := .unknown, stopSequence := false }).trackIdle

/-- A completion of the indexer (R109 to R111). -/
def State.indexerEnded (s : State) (c : Completion) : State :=
  if s.trc.seq = .idle ∨ s.trc.seqStopped then s
  else
    match c with
    | .done _ => s.stepDone s.trc.seq
    | .fault | .timeout | .noAnswer => (s.setTrc { s.trc with seqStopped := true }).joinStopped .sequence
    | .stopped => s.abandonSequence

/-- The sequence or the reclamp starts (R108, R109): the heads are told the strip is not clamped, the feed sees MOVING. -/
def State.startSequence (s : State) (step : SeqState) : State := ((s.issueStep step).testBothHeads).testFeed

/-- The first step of a sequence (R109): UNCLAMP is passed over when the clamp is OPEN. -/
def Trc.firstStep (t : Trc) : SeqState := if t.clamp = .opened then .index else .unclamp

/-! ## The work holder's SET_TEMP (R106) -/

/-- A completion of the work holder: SET_TEMP is not retried, and the oldest that waits is issued. In HALT each that waits
ends STOPPED at once (R128). -/
def State.workHolderEnded (s : State) (_c : Completion) : State :=
  let s1 := s.setTrc { s.trc with setTempOut := false, setTempWaiting := [] }
  match s.trc.setTempWaiting with
  | [] => s1
  | t :: ts =>
    if s.cmc.mode = .halt then s1 else (s1.setTrc { s1.trc with setTempWaiting := ts }).issueSetTemp t

/-! ## The ACK of DRIVE_STOP with source TRACK (R110) -/

/-- INPUT dealt with at an ACK (R110). -/
def State.ackInput (s : State) : State :=
  if s.trc.stopInput then
    let s1 := s.setTrc { s.trc with stopInput := false }
    if s.cmc.mode = .halt then s1.setTrc { s1.trc with rescanWanted := true }
    else if s.trc.inMag.state = .absent then s1
    else s1.startScan
  else s

/-- SEQUENCE dealt with at an ACK (R110). -/
def State.ackSequence (s : State) : State :=
  if s.trc.stopSequence then
    let s1 := s.setTrc { s.trc with stopSequence := false }
    if s.trc.seqStopped then
      if s.cmc.mode = .halt then s1.abandonSequence else s1.issueStep s.trc.seq
    else s1
  else s

/-- The ACK taken by the TRC (R110): INPUT, then SEQUENCE, then OUTPUT (log 49); the store is tested again by STORE (log 1). -/
def State.ackTrack (s : State) : State :=
  let s1 := (s.setTrc { s.trc with driveStopRaised := false }).ackInput.ackSequence
  (s1.setTrc { s1.trc with stopOutput := false }).testFeed

/-! ## START_LOT (R115) -/

/-- The magazines renumbered. -/
def Trc.renumber (t : Trc) : Trc :=
  { t with
    inMag := { t.inMag with number := if t.inMag.state = .absent then 0 else 1 }
    outMag := { t.outMag with number := if t.outMag.state = .absent then 0 else 1 } }

end Sys2Proof.Machine
end

