-- ==== Sys2Proof/Machine/Drives.lean ====
section
/-! DEFINITION. Drive Line Controller (chapter 7): ends of operations and their issuers, the command exchange, polls and status
frames, timeouts; and the entry into HALT (R182), which ends every operation (R128). -/

namespace Sys2Proof.Machine

open Sys2Proof

/-! ## Completions -/

/-- The completion handed to the drive's issuer (R119). -/
def State.deliver (s : State) (d : Drive) (c : Completion) : State :=
  match d with
  | .posA => s.positionerEnded .a c
  | .posB => s.positionerEnded .b c
  | .indexer => s.indexerEnded c
  | .inElevator => s.inElevatorEnded c
  | .outElevator => s.outElevatorEnded c
  | .pull => s.pullEnded c
  | .workHolder => s.workHolderEnded c

/-- The drive's record with stage NONE. -/
def DriveState.ended (x : DriveState) : DriveState := { x with stage := .none, op := none, acceptAt := 0, timeout := 0 }

/-- The drive's stage becomes NONE and the completion is handed over (R122, R123). -/
def State.endOperation (s : State) (d : Drive) (c : Completion) : State :=
  (s.setDrive d (s.dlc.drives.get d).ended).deliver d c

/-- Op code of the operation a drive holds, 0 when none. -/
def DriveState.opCode (x : DriveState) : Byte := (x.op.map DriveOp.code).getD 0

/-- A last fault recorded (R129). -/
def State.recordFault (s : State) (d : Drive) (kind : FaultKind) (code : Byte) : State :=
  let x := s.dlc.drives.get d
  s.setDrive d { x with lastFault := ⟨kind, x.opCode, code⟩ }

/-- DRIVE_FAULT with its event (R122, R123). -/
def State.driveFaultEvent (s : State) (d : Drive) (kind : FaultKind) (op code : Byte) : State :=
  (s.setCondition .driveFault).writeEvent .driveFault (driveAddress d) (argBytes op.toNat kind.code 0 code.toNat)

/-- An operation ends REFUSED or with the drive's FAULT: last fault, DRIVE_FAULT, event, completion FAULT (R122, R123). -/
def State.failOperation (s : State) (d : Drive) (kind : FaultKind) (code : Byte) : State :=
  let op := (s.dlc.drives.get d).opCode
  ((s.recordFault d kind code).driveFaultEvent d kind op code).endOperation d .fault

/-- An exchange ends NO_ANSWER (R122). -/
def State.noAnswer (s : State) (d : Drive) : State :=
  let op := (s.dlc.drives.get d).opCode
  (((s.recordFault d .noAnswer 0).setCondition .driveLineError).driveFaultEvent d .noAnswer op 0).endOperation d .noAnswer

/-! ## The command exchange (R122) -/

/-- The timeout of a drive's operations, as the configuration stands (R119). -/
def State.timeoutOf (s : State) (d : Drive) : Nat :=
  match d with
  | .posA => (s.config .a).timeout
  | .posB => (s.config .b).timeout
  | .indexer => s.rs.track.item.indexerTimeout
  | .inElevator | .outElevator => s.rs.track.item.elevatorTimeout
  | .pull => s.rs.track.item.pullTimeout
  | .workHolder => 500

/-- The line with a new state. -/
def State.setLine (s : State) (l : LineState) : State := s.setDlc { s.dlc with line := l }

/-- The exchange is decided by ACCEPT: OUTSTANDING, the timeout read (R122, R123). -/
def State.accepted (s : State) (d : Drive) : State :=
  s.setDrive d
    { s.dlc.drives.get d with stage := .outstanding, acceptAt := s.cmc.cellTime, timeout := s.timeoutOf d }

/-- The character that decides an exchange (R122); an operation ended by HALT has its outcome discarded. -/
def State.answer (s : State) (d : Drive) (discard : Bool) (c : LineChar) : State :=
  let s1 := s.setLine .free
  if discard then s1
  else if c = dataChar 0x5A then s1.accepted d
  else if c = dataChar 0xA5 then s1.failOperation d .refused 0
  else s1.noAnswer d

/-- Nothing is waiting that the arbiter would choose before a command: no STOP pending, no attention (R127). -/
def Dlc.lowestAttention (d : Dlc) : Option Drive := allDrives.find? fun x => (d.drives.get x).attention

/-- The oldest queued operation is sent (R122, R127). -/
def State.sendCommand (s : State) (d : Drive) (rest : List Drive) : State :=
  let x := s.dlc.drives.get d
  match x.op with
  | none => s.setDlc { s.dlc with queue := rest }
  | some op =>
    s.setDlc
      { s.dlc with
        queue := rest
        drives := s.dlc.drives.set d { x with stage := .inExchange }
        line := .command d false
        sent := commandFrame (driveAddress d) op.code op.args }

/-! ## Polls and status frames (R124 to R126) -/

/-- The number of characters of a status frame, once its length is known (R121). -/
def statusLength (chars : List Byte) : Option Nat := (chars[2]?).map fun n => n.toNat + 4

/-- The reports a drive makes, with their length (R120). -/
def reportLength (d : Drive) (code : Byte) : Option Nat :=
  match d with
  | .inElevator | .outElevator => if code = 0x61 then some 1 else none
  | .workHolder => if code = 0x60 then some 2 else none
  | _ => none

/-- A complete status frame is good (R125). -/
def goodStatus (d : Drive) (x : DriveState) (chars : List Byte) : Bool :=
  match chars with
  | kind :: op :: len :: _ =>
    byteSum chars == 0 &&
      (if kind = 1 then resultLength op == some len.toNat && opFits op
       else if kind = 2 then len.toNat == 1 && opFits op
       else if kind = 3 then reportLength d op == some len.toNat
       else false)
  | _ => false
where
  /-- A DONE or FAULT names the outstanding operation, when there is one. -/
  opFits (op : Byte) : Bool := x.stage != .outstanding || x.opCode == op

/-- The line becomes free with a single character sent. -/
def State.closePoll (s : State) (c : Byte) : State := s.setDlc { s.dlc with line := .free, sent := [dataChar c] }

/-- A bad status frame (R125): AGAIN. -/
def State.badStatus (s : State) : State := (s.setCondition .driveLineError).closePoll 0xCC

/-- A report handed to the TRC (R126). -/
def State.report (s : State) (d : Drive) (results : List Byte) : State :=
  match d with
  | .inElevator => s.inputPresence (readsYes (results.headD 0))
  | .outElevator => s.outputPresence (readsYes (results.headD 0))
  | .workHolder => s.tempReport (beNat results)
  | _ => s

/-- A good status frame acted on (R126). -/
def State.goodStatusTaken (s : State) (d : Drive) (kind op : Byte) (results : List Byte) : State :=
  let x := s.dlc.drives.get d
  if kind = 3 then s.report d results
  else if x.stage = .outstanding then
    if kind = 1 then s.endOperation d (.done results) else s.failOperation d .fault (results.headD 0)
  else (s.setCondition .lateReply).writeEvent .lateReply (driveAddress d) (argBytes kind.toNat op.toNat 0 0)

/-- A status character (R124, R125): the frame is judged at its last character, and an address character ends it bad at
once (log 9). -/
def State.statusChar (s : State) (d : Drive) (chars : List Byte) (c : LineChar) : State :=
  if c.msb then s.badStatus
  else
    let all := chars ++ [c.setWidth 8]
    if statusLength all = some all.length then
      if goodStatus d (s.dlc.drives.get d) all then
        (s.closePoll 0x33).goodStatusTaken d (all.headD 0) (all.getD 1 0) ((all.drop 3).dropLast)
      else s.badStatus
    else s.setLine (.poll d all)

/-! ## Timeouts (R123) -/

/-- The timer of an outstanding operation expires (R123). -/
def State.timedOut (s : State) (d : Drive) : State :=
  let op := (s.dlc.drives.get d).opCode
  (((s.recordFault d .timeout 0).setCondition .driveTimeout).writeEvent .driveTimeout (driveAddress d)
    (argBytes op.toNat 0 0 0)).endOperation d .timeout

/-! ## HALT (R128, R182) -/

/-- An operation held for a drive ends STOPPED. -/
def State.stopDrive (s : State) (d : Drive) : State :=
  if (s.dlc.drives.get d).stage = .none then s else s.endOperation d .stopped

/-- An exchange on the line at HALT has its outcome discarded (R122, R128). -/
def LineState.discarded : LineState → LineState
  | .command d _ => .command d true
  | l => l

/-- The DLC enters HALT (R128): the STOPPED completions are handed over in drive order (log 11). -/
def State.haltDrives (s : State) : State :=
  allDrives.foldl State.stopDrive
    (s.setDlc { s.dlc with queue := [], stopPending := true, line := s.dlc.line.discarded })

/-- The cell enters HALT from another mode with cause 6 (input) or 7 (request) (R182, R179). -/
def State.enterHalt (s : State) (cause : Nat) : State :=
  let old := s.cmc.mode
  let s1 := (s.setCmc { s.cmc with mode := .halt, cause := cause }).haltDrives
  let s2 := (((s1.haltHead .a).haltHead .b).abandonSequence).haltPull
  let s3 := (s2.testBothHeads).testPullGates
  let s4 := (s3.raisePrompt .haltActive 0 0).setCondition .haltEntered
  let s5 := s4.writeEvent .modeChange sourceCmc (argBytes 0 0 old.code Mode.halt.code)
  let s6 := s5.writeEvent .haltEntered sourceCmc (argBytes (if cause = 6 then 1 else 2) 0 0 0)
  s6.handNotice (.mode .halt old cause)

end Sys2Proof.Machine
end

