-- ==== Sys2Proof/Machine/Recipe.lean ====
section
/-! DEFINITION. The Recipe Store (chapter 1): the load requests with their checks, the recipe check, and reading the store.
A handler takes the payload and the state, and answers the next state and the reply's payload. -/

namespace Sys2Proof.Machine

open Sys2Proof

/-! ## The stages of a load (R4) -/

/-- Classes of items (R3); fixed stands for structure. -/
inductive ItemClass | fixed | process | plan
deriving DecidableEq, Repr

/-- The mode and track stages (R4): none when both pass. -/
def State.loadRefusal (s : State) (c : ItemClass) : Option Payload :=
  match c with
  | .fixed =>
    if s.cmc.mode ≠ .setup then some (refusal .wrongMode 0)
    else if s.trackEmpty then none
    else some (refusal .trackOccupied 0)
  | .process => if s.cmc.mode = .halt then some (refusal .wrongMode 0) else none
  | .plan => if s.cmc.mode ≠ .setup then some (refusal .wrongMode 0) else none

/-- The first failing cross-field test: each is the field it is reported against and whether it passes. -/
def crossRefusal : List (Nat × Bool) → Option Payload
  | [] => none
  | (n, ok) :: rest => if ok then crossRefusal rest else some (refusal .badValue n)

/-- The value stage (R4): the ranges in payload order, then the cross-field tests. -/
def valueRefusal (fs : List FieldSpec) (vs : List Int) (cross : List (Nat × Bool)) : Option Payload :=
  match firstBad fs vs 1 with
  | some n => some (refusal .badValue n)
  | none => crossRefusal cross

/-- A load of fixed length: length, mode, track, values, then the write (R4). -/
def State.load (s : State) (c : ItemClass) (fs : List FieldSpec) (p : Payload) (cross : List Int → List (Nat × Bool))
    (write : State → List Int → State × Payload) : State × Payload :=
  if p.length ≠ fieldsLength fs then (s, refusal .badLength 0)
  else
    match s.loadRefusal c with
    | some r => (s, r)
    | none =>
      match valueRefusal fs (fieldValues fs p) (cross (fieldValues fs p)) with
      | some r => (s, r)
      | none => write s (fieldValues fs p)

/-- A load taken. -/
def taken (s : State) : State × Payload := (s, replyOk [])

/-! ## Layout (R5) -/

/-- Fields of LOAD_LAYOUT; the last two are checked against the columns of the same request. -/
def layoutFields (c : Int) : List FieldSpec :=
  [⟨1, 1, 8, false, 1⟩, ⟨1, 1, 24, false, 1⟩, ⟨4, 100, 100000, false, 1⟩, ⟨4, 100, 100000, false, 1⟩,
   ⟨4, -2000000000, 2000000000, true, 1⟩, ⟨4, -2000000000, 2000000000, true, 1⟩, ⟨2, 1, 512, false, 1⟩,
   ⟨1, 0, c, false, 1⟩, ⟨1, 1, c + 1, false, 1⟩]

/-- The layout of its field values. -/
def layoutOf (v : List Int) : Layout :=
  { rows := fieldNat v 1, cols := fieldNat v 2, px := fieldNat v 3, py := fieldNat v 4, ox := fieldAt v 5,
    oy := fieldAt v 6, wires := fieldNat v 7, a := fieldNat v 8, b := fieldNat v 9 }

/-- The field values of a layout. -/
def Layout.values (l : Layout) : List Int :=
  [(l.rows : Int), (l.cols : Int), (l.px : Int), (l.py : Int), l.ox, l.oy, (l.wires : Int), (l.a : Int), (l.b : Int)]

/-- LOAD_LAYOUT (R5): every wire entry is cleared. -/
def handleLoadLayout (p : Payload) (s : State) : State × Payload :=
  s.load .fixed (layoutFields (p.getD 1 0).toNat) p
    (fun v => [(9, decide (fieldAt v 8 < fieldAt v 9))])
    (fun s v =>
      taken (s.setRs
        { s.rs with layout := ⟨layoutOf v, true⟩, wires := Vector.replicate 512 ⟨.zero, false⟩ }))

/-! ## Wires (R7) -/

/-- Fields of one wire entry. -/
def wireFields : List FieldSpec :=
  [⟨2, -32000, 32000, true, 1⟩, ⟨2, -32000, 32000, true, 1⟩, ⟨2, 0, 65535, false, 1⟩, ⟨2, -32000, 32000, true, 1⟩,
   ⟨2, -32000, 32000, true, 1⟩, ⟨2, 0, 65535, false, 1⟩, ⟨1, 0, 31, false, 1⟩, ⟨1, 0, 63, false, 1⟩, ⟨1, 0, 63, false, 1⟩]

/-- A list repeated. -/
def repeated {α : Type} (n : Nat) (xs : List α) : List α := (List.replicate n xs).flatten

/-- The wire entry of its nine field values. -/
def wireOf (v : List Int) : WireEntry :=
  { x1 := fieldAt v 1, y1 := fieldAt v 2, z1 := fieldNat v 3, x2 := fieldAt v 4, y2 := fieldAt v 5, z2 := fieldNat v 6,
    loop := fieldNat v 7, ballSet := fieldNat v 8, stitchSet := fieldNat v 9 }

/-- The field values of a wire entry. -/
def WireEntry.values (w : WireEntry) : List Int :=
  [w.x1, w.y1, (w.z1 : Int), w.x2, w.y2, (w.z2 : Int), (w.loop : Int), (w.ballSet : Int), (w.stitchSet : Int)]

/-- n entries written from index f on, from their field values in order. -/
def writeWires (ws : Vector (Loaded WireEntry) 512) : Nat → Nat → List Int → Vector (Loaded WireEntry) 512
  | _, 0, _ => ws
  | f, n + 1, v => writeWires (ws.setIfInBounds (f - 1) ⟨wireOf (v.take 9), true⟩) (f + 1) n (v.drop 9)

/-- LOAD_WIRES (R7). -/
def handleLoadWires (p : Payload) (s : State) : State × Payload :=
  let n := (p.getD 2 0).toNat
  let fs := ⟨2, 1, 512, false, 1⟩ :: ⟨1, 1, 6, false, 1⟩ :: repeated n wireFields
  let v := fieldValues fs p
  if p.length < 3 then (s, refusal .badLength 0)
  else if n < 1 ∨ 6 < n then (s, refusal .badValue 2)
  else if p.length ≠ 3 + 15 * n then (s, refusal .badLength 0)
  else
    match s.loadRefusal .fixed with
    | some r => (s, r)
    | none =>
      if s.rs.layout.loaded = false then (s, refusal .notLoaded 0)
      else
        match valueRefusal fs v [(1, decide (fieldNat v 1 + n - 1 ≤ s.rs.layout.item.wires))] with
        | some r => (s, r)
        | none => taken (s.setRs { s.rs with wires := writeWires s.rs.wires (fieldNat v 1) n (v.drop 2) })

/-! ## Bond sets and loop profiles (R8, R9) -/

/-- Fields of LOAD_BOND_SET. -/
def bondSetFields : List FieldSpec :=
  [⟨1, 0, 63, false, 1⟩, ⟨2, 50, 2000, false, 1⟩, ⟨2, 0, 1000, false, 1⟩, ⟨1, 0, 100, false, 1⟩,
   ⟨2, 0, 51200, false, 50⟩, ⟨2, 100, 51200, false, 50⟩, ⟨2, 0, 5000, false, 1⟩, ⟨2, 0, 65535, false, 1⟩,
   ⟨2, 0, 65535, false, 1⟩, ⟨2, 0, 2000, false, 1⟩, ⟨2, 0, 2000, false, 1⟩, ⟨1, 0, 25, false, 1⟩]

/-- The bond set of its field values, the index first. -/
def bondSetOf (v : List Int) : BondSet :=
  { force := fieldNat v 2, pSet := fieldNat v 3, r := fieldNat v 4, tPre := fieldNat v 5, t := fieldNat v 6,
    cw := fieldNat v 7, eMin := fieldNat v 8, eMax := fieldNat v 9, dMin := fieldNat v 10, dMax := fieldNat v 11,
    guard := fieldNat v 12 }

/-- The field values of a bond set, without the index. -/
def BondSet.values (b : BondSet) : List Int :=
  [(b.force : Int), (b.pSet : Int), (b.r : Int), (b.tPre : Int), (b.t : Int), (b.cw : Int), (b.eMin : Int), (b.eMax : Int),
   (b.dMin : Int), (b.dMax : Int), (b.guard : Int)]

/-- LOAD_BOND_SET (R8). -/
def handleLoadBondSet (p : Payload) (s : State) : State × Payload :=
  s.load .process bondSetFields p
    (fun v =>
      [(5, decide (fieldAt v 5 ≤ fieldAt v 6)), (9, decide (fieldAt v 8 ≤ fieldAt v 9)),
       (11, decide (fieldAt v 10 ≤ fieldAt v 11))])
    (fun s v => taken (s.setRs { s.rs with sets := s.rs.sets.setIfInBounds (fieldNat v 1) ⟨bondSetOf v, true⟩ }))

/-- Fields of LOAD_LOOP. -/
def loopFields : List FieldSpec :=
  [⟨1, 0, 31, false, 1⟩, ⟨2, 50, 1000, false, 1⟩, ⟨2, 0, 500, false, 1⟩, ⟨1, 0, 7, false, 1⟩]

/-- The loop profile of its field values, the index first. -/
def loopOf (v : List Int) : LoopProfile := { height := fieldNat v 2, reverse := fieldNat v 3, shape := fieldNat v 4 }

/-- The field values of a loop profile, without the index. -/
def LoopProfile.values (l : LoopProfile) : List Int := [(l.height : Int), (l.reverse : Int), (l.shape : Int)]

/-- LOAD_LOOP (R9). -/
def handleLoadLoop (p : Payload) (s : State) : State × Payload :=
  s.load .process loopFields p (fun _ => [])
    (fun s v => taken (s.setRs { s.rs with loops := s.rs.loops.setIfInBounds (fieldNat v 1) ⟨loopOf v, true⟩ }))

/-! ## The sampling plan (R10) -/

/-- Fields of one site. -/
def siteFields : List FieldSpec := [⟨1, 1, 8, false, 1⟩, ⟨1, 1, 24, false, 1⟩, ⟨2, 1, 512, false, 1⟩]

/-- Fields of LOAD_PLAN with s sites. -/
def planFields (sites : Nat) : List FieldSpec :=
  [⟨1, 0, 255, false, 1⟩, ⟨1, 0, 16, false, 1⟩, ⟨1, 0, 8, false, 1⟩, ⟨1, 0, 255, false, 1⟩, ⟨2, 0, 65535, false, 1⟩,
   ⟨1, 1, 31, false, 1⟩] ++ repeated sites siteFields

/-- n sites of their field values in order. -/
def sitesOf : Nat → List Int → List Site
  | 0, _ => []
  | n + 1, v => ⟨fieldNat v 1, fieldNat v 2, fieldNat v 3⟩ :: sitesOf n (v.drop 3)

/-- The cross-field tests of the sites: each site against the earlier ones, reported at its row field (R10). R10 gives no order
among several repeats; that the first later site in payload order is reported is the model's choice (log 47). -/
def siteCross (earlier : List Site) : Nat → List Site → List (Nat × Bool)
  | _, [] => []
  | j, x :: xs => (6 + 3 * (j - 1) + 1, !earlier.contains x) :: siteCross (x :: earlier) (j + 1) xs

/-- LOAD_PLAN (R10). -/
def handleLoadPlan (p : Payload) (s : State) : State × Payload :=
  let n := (p.getD 1 0).toNat
  let fs := planFields n
  let v := fieldValues fs p
  let sites := sitesOf n (v.drop 6)
  if p.length < 7 then (s, refusal .badLength 0)
  else if 16 < n then (s, refusal .badValue 2)
  else if p.length ≠ 7 + 4 * n then (s, refusal .badLength 0)
  else
    match s.loadRefusal .plan with
    | some r => (s, r)
    | none =>
      match valueRefusal fs v (siteCross [] 1 sites) with
      | some r => (s, r)
      | none =>
        taken (s.setRs
          { s.rs with
            plan :=
              { k := fieldNat v 1, m := fieldNat v 3, q := fieldNat v 4, fMin := fieldNat v 5,
                accept := byte (fieldNat v 6), sites := sites } })

/-! ## Head configuration (R12, R13) -/

/-- Fields of LOAD_HEAD_CONFIG. -/
def headFields : List FieldSpec :=
  [⟨1, 1, 2, false, 1⟩, ⟨1, 0, 1, false, 1⟩, ⟨2, 0, 1000, false, 1⟩, ⟨4, 10000, 4000000, false, 1⟩,
   ⟨1, 0, 100, false, 1⟩, ⟨1, 1, 15, false, 1⟩, ⟨1, 0, 3, false, 1⟩, ⟨4, -2000000000, 2000000000, true, 1⟩,
   ⟨4, -2000000000, 2000000000, true, 1⟩, ⟨2, 10, 5000, false, 10⟩, ⟨2, 1, 2000, false, 1⟩, ⟨2, 0, 2000, false, 1⟩,
   ⟨2, 0, 2000, false, 1⟩]

/-- The head configuration of its field values, the head first. -/
def headConfigOf (v : List Int) : HeadConfig :=
  { enabled := fieldNat v 2 == 1, pLim := fieldNat v 3, life := fieldNat v 4, gain := fieldNat v 5,
    liftLimit := fieldNat v 6, retries := fieldNat v 7, hx := fieldAt v 8, hy := fieldAt v 9, timeout := fieldNat v 10,
    spoolSize := fieldNat v 11, spoolLow := fieldNat v 12, spoolReserve := fieldNat v 13 }

/-- The field values of a head configuration, without the head. -/
def HeadConfig.values (c : HeadConfig) : List Int :=
  [if c.enabled then 1 else 0, (c.pLim : Int), (c.life : Int), (c.gain : Int), (c.liftLimit : Int), (c.retries : Int),
   c.hx, c.hy, (c.timeout : Int), (c.spoolSize : Int), (c.spoolLow : Int), (c.spoolReserve : Int)]

/-- The head is told its new configuration (R13, R91): it enters IDLE or DISABLED first, then its consumables are judged
(log 42). -/
def State.headConfigTaken (s : State) (h : HeadId) (enabledBefore : Bool) : State :=
  let s1 :=
    match enabledBefore, (s.config h).enabled with
    | true, false => s.setHead h { s.head h with state := .disabled, phase := none, gate := none, reason := none }
    | false, true => s.enterIdle h
    | _, _ => s
  s1.judgeConsumables h

/-- LOAD_HEAD_CONFIG (R12). -/
def handleLoadHeadConfig (p : Payload) (s : State) : State × Payload :=
  s.load .fixed headFields p
    (fun v => [(12, decide (fieldAt v 12 ≤ fieldAt v 11)), (13, decide (fieldAt v 13 ≤ fieldAt v 12))])
    (fun s v =>
      let h := (headOf (fieldNat v 1)).getD .a
      let c := headConfigOf v
      if c.enabled = false ∧ (s.head h).state = .suspended then (s, refusal .conflict 2)
      else
        taken ((s.setRs { s.rs with heads := s.rs.heads.set h ⟨c, true⟩ }).headConfigTaken h (s.config h).enabled))

/-! ## Track configuration (R14) -/

/-- Fields of LOAD_TRACK_CONFIG. -/
def trackFields : List FieldSpec :=
  [⟨1, 1, 64, false, 1⟩, ⟨1, 1, 64, false, 1⟩, ⟨2, 0, 60000, false, 1⟩, ⟨2, 1000, 3000, false, 1⟩,
   ⟨1, 10, 200, false, 1⟩, ⟨2, 10, 5000, false, 10⟩, ⟨2, 10, 5000, false, 10⟩, ⟨2, 10, 5000, false, 10⟩]

/-- The track configuration of its field values. -/
def trackConfigOf (v : List Int) : TrackConfig :=
  { inSlots := fieldNat v 1, outSlots := fieldNat v 2, dwell := fieldNat v 3, setpoint := fieldNat v 4,
    band := fieldNat v 5, indexerTimeout := fieldNat v 6, elevatorTimeout := fieldNat v 7, pullTimeout := fieldNat v 8 }

/-- The field values of a track configuration. -/
def TrackConfig.values (c : TrackConfig) : List Int :=
  [(c.inSlots : Int), (c.outSlots : Int), (c.dwell : Int), (c.setpoint : Int), (c.band : Int), (c.indexerTimeout : Int),
   (c.elevatorTimeout : Int), (c.pullTimeout : Int)]

/-- LOAD_TRACK_CONFIG (R14). -/
def handleLoadTrackConfig (p : Payload) (s : State) : State × Payload :=
  s.load .fixed trackFields p (fun _ => [])
    (fun s v => taken (s.setRs { s.rs with track := ⟨trackConfigOf v, true⟩ }).trackConfigTaken)

/-! ## The recipe check (R16) -/

/-- The flag of a wire. -/
def RecipeStore.wireLoaded (rs : RecipeStore) (i : Nat) : Bool := ((rs.wires[i - 1]?).map (·.loaded)).getD false
/-- The flag of a bond set. -/
def RecipeStore.setLoaded (rs : RecipeStore) (i : Nat) : Bool := ((rs.sets[i]?).map (·.loaded)).getD false
/-- The flag of a loop profile. -/
def RecipeStore.loopLoaded (rs : RecipeStore) (i : Nat) : Bool := ((rs.loops[i]?).map (·.loaded)).getD false

/-- Within ±2,000,000,000 (R15). -/
def inRange (v : Int) : Bool := decide (-2000000000 ≤ v) && decide (v ≤ 2000000000)

/-- The sums of a wire with a head offset lie in range at the extreme units (R16, test 9). -/
def targetsInRange (l : Layout) (w : WireEntry) (hx hy : Int) : Bool :=
  [1, l.cols].all (fun c => inRange ((unitOrigin l 1 c).1 + w.x1 - hx) && inRange ((unitOrigin l 1 c).1 + w.x2 - hx)) &&
    [1, l.rows].all (fun r => inRange ((unitOrigin l r 1).2 + w.y1 - hy) && inRange ((unitOrigin l r 1).2 + w.y2 - hy))

/-- The sum of a wire that fails test 9: 0 unoffset, 1 head A, 2 head B; a disabled head is skipped. -/
def targetFailure (rs : RecipeStore) (w : WireEntry) : Option Nat :=
  let l := rs.layout.item
  let a := rs.heads.a.item
  let b := rs.heads.b.item
  if !targetsInRange l w 0 0 then some 0
  else if a.enabled && !targetsInRange l w a.hx a.hy then some 1
  else if b.enabled && !targetsInRange l w b.hx b.hy then some 2
  else none

/-- A failed recipe check: failure code and two arguments. -/
structure RecipeFailure where
  code : Nat
  arg1 : Nat
  arg2 : Nat
deriving DecidableEq, Repr

/-- Tests 2 to 4 (R16): the wires, then the sets, then the loops they name. -/
def wireTests (rs : RecipeStore) (is : List Nat) : Option RecipeFailure :=
  match is.find? fun i => !rs.wireLoaded i with
  | some i => some ⟨2, i, 0⟩
  | none =>
    match is.find? fun i => !(rs.setLoaded (wireEntry rs i).ballSet && rs.setLoaded (wireEntry rs i).stitchSet) with
    | some i =>
      let w := wireEntry rs i
      some ⟨3, i, if rs.setLoaded w.ballSet then w.stitchSet else w.ballSet⟩
    | none =>
      match is.find? fun i => !rs.loopLoaded (wireEntry rs i).loop with
      | some i => some ⟨4, i, (wireEntry rs i).loop⟩
      | none => none

/-- Tests 5 to 9 (R16). -/
def configTests (rs : RecipeStore) (is : List Nat) : Option RecipeFailure :=
  let l := rs.layout.item
  if !rs.heads.a.loaded then some ⟨5, 0, 1⟩
  else if !rs.heads.b.loaded then some ⟨5, 0, 2⟩
  else if !rs.track.loaded then some ⟨6, 0, 0⟩
  else if !(rs.heads.a.item.enabled || rs.heads.b.item.enabled) then some ⟨7, 0, 0⟩
  else
    match rs.plan.sites.findIdx? fun x => decide (l.rows < x.row ∨ l.cols < x.col ∨ l.wires < x.wire) with
    | some j => some ⟨8, j + 1, 0⟩
    | none =>
      match is.find? fun i => (targetFailure rs (wireEntry rs i)).isSome with
      | some i => some ⟨9, i, (targetFailure rs (wireEntry rs i)).getD 0⟩
      | none => none

/-- The recipe check (R16): none when it passes. -/
def checkRecipe (rs : RecipeStore) : Option RecipeFailure :=
  if !rs.layout.loaded then some ⟨1, 0, 0⟩
  else
    let is := List.range' 1 rs.layout.item.wires
    match wireTests rs is with
    | some f => some f
    | none => configTests rs is

/-- Failure code and arguments as bytes (R17). -/
def failureBytes : Option RecipeFailure → List Byte
  | none => [0, 0, 0, 0]
  | some f => byte f.code :: beBytes 2 f.arg1 ++ [byte f.arg2]

/-- CHECK_RECIPE (R17): the rule gives the request no payload field, so a payload gives BAD_LENGTH (log 34). -/
def handleCheckRecipe (p : Payload) (s : State) : State × Payload :=
  if p ≠ [] then (s, refusal .badLength 0) else (s, replyOk (failureBytes (checkRecipe s.rs)))

/-! ## Reading the store (R18) -/

/-- A loaded flag and the fields of an item. -/
def itemBytes (loaded : Bool) (fs : List FieldSpec) (v : List Int) : List Byte := boolByte loaded :: fieldBytes fs v

/-- The field values of the plan, its sites last. -/
def Plan.values (q : Plan) : List Int :=
  [(q.k : Int), (q.sites.length : Int), (q.m : Int), (q.q : Int), (q.fMin : Int), (q.accept.toNat : Int)] ++
    q.sites.flatMap fun x => [(x.row : Int), (x.col : Int), (x.wire : Int)]

/-- The bytes of wires f to f + n - 1. -/
def wiresBytes (rs : RecipeStore) (f n : Nat) : List Byte :=
  (List.range' f n).flatMap fun i => itemBytes (rs.wireLoaded i) wireFields (wireEntry rs i).values

/-- The range of the index of a kind (R18). -/
def indexRange : Nat → Nat × Nat
  | 2 => (1, 512)
  | 3 => (0, 63)
  | 4 => (0, 31)
  | 6 => (1, 2)
  | _ => (0, 0)

/-- The bytes of an item of a kind other than wires. -/
def storeBytes (rs : RecipeStore) (kind i : Nat) : List Byte :=
  match kind with
  | 1 => itemBytes rs.layout.loaded (layoutFields 0) rs.layout.item.values
  | 3 => itemBytes (rs.setLoaded i) (bondSetFields.drop 1) (bondSet rs i).values
  | 4 => itemBytes (rs.loopLoaded i) (loopFields.drop 1) (loopProfile rs i).values
  | 5 => fieldBytes (planFields rs.plan.sites.length) rs.plan.values
  | 6 =>
    let c := rs.heads.get ((headOf i).getD .a)
    itemBytes c.loaded (headFields.drop 1) c.item.values
  | 7 => itemBytes rs.track.loaded trackFields rs.track.item.values
  | _ => []

/-- READ_RECIPE_ITEM (R18); the length is tested first, then kind, index and count (log 18), and a count outside 1..6 is
refused under the count's detail (log 39). -/
def handleReadRecipeItem (p : Payload) (s : State) : State × Payload :=
  let kind := (p.headD 0).toNat
  let i := beNat ((p.drop 1).take 2)
  let n := (p.getD 3 0).toNat
  let range := indexRange kind
  if p.length ≠ (if kind = 2 then 4 else 3) then (s, refusal .badLength 0)
  else if kind < 1 ∨ 7 < kind then (s, refusal .badValue 1)
  else if i < range.1 ∨ range.2 < i then (s, refusal .badValue 2)
  else if kind = 2 then
    if n < 1 ∨ 6 < n ∨ 512 < i + n - 1 then (s, refusal .badValue 3)
    else (s, replyOk (wiresBytes s.rs i n))
  else (s, replyOk (storeBytes s.rs kind i))

end Sys2Proof.Machine
end

