-- ==== Sys2Proof/Machine/Records.lean ====
section
/-! DEFINITION. Host access to the Record Memory (9.5 to 9.7): the record layouts, READ_RECORDS, RELEASE_RECORDS,
REGION_STATUS and SET_REGIONS. -/

namespace Sys2Proof.Machine

open Sys2Proof

/-! ## Record layouts (R160) -/

/-- Wire record, 48 bytes. -/
def WireRecord.bytes (r : WireRecord) : List Byte :=
  beBytes 4 r.serial ++ beBytes 4 r.time ++ beBytes 2 r.unit.strip ++ [byte r.unit.row, byte r.unit.col] ++
    beBytes 2 r.wire ++ [byte (headNo r.head), byte r.outcome.code] ++
    [byte r.ball.verdict.code, r.ball.flags, byte r.stitch.verdict.code, r.stitch.flags] ++
    beBytes 2 r.ball.energy ++ beBytes 2 r.ball.deform ++ beBytes 2 r.ball.zc ++ beBytes 2 r.ball.pEff ++
    beBytes 2 r.stitch.energy ++ beBytes 2 r.stitch.deform ++ beBytes 2 r.stitch.zc ++ beBytes 2 r.stitch.pEff ++
    beBytes 4 r.capStart ++ beBytes 2 r.length ++ [byte r.ball.shortfall, byte r.stitch.shortfall] ++ beBytes 4 0

/-- Pull record, 32 bytes. -/
def PullRecord.bytes (r : PullRecord) : List Byte :=
  beBytes 4 r.serial ++ beBytes 2 r.strip ++ [byte r.entry.row, byte r.entry.col] ++ beBytes 2 r.entry.wire ++
    [byte r.entry.origin.code, byte r.mode, byte r.verdict.code, byte r.classifier.code] ++ beBytes 2 r.force ++
    beBytes 2 r.breakHeight ++ beBytes 4 r.pullTime ++ beBytes 4 r.classifyTime ++ beBytes 2 r.lotNumber ++ beBytes 4 0

/-- The unit map in index order, one state code per half byte, the even index in the upper half. -/
def unitNibbles : List UnitState → List Byte
  | u :: v :: rest => byte (u.code * 16 + v.code) :: unitNibbles rest
  | [u] => [byte (u.code * 16)]
  | [] => []

/-- Strip summary, 128 bytes. -/
def StripSummary.bytes (x : StripSummary) : List Byte :=
  let r := x.record
  let out := r.out.getD (0, 0)
  beBytes 4 x.serial ++ beBytes 4 x.lotId ++ beBytes 2 r.serial ++ [byte r.inMag, byte r.inSlot, byte out.1, byte out.2] ++
    [byte r.origin.code, boolByte r.mapPresent] ++ beBytes 2 r.marginalCount ++ beBytes 2 r.good ++ beBytes 2 r.failed ++
    beBytes 4 r.timeFed ++ beBytes 4 r.timeStored ++ beBytes 2 0 ++ unitNibbles r.units.toList

/-- Event record, 16 bytes. -/
def EventRecord.bytes (r : EventRecord) : List Byte :=
  beBytes 4 r.serial ++ beBytes 4 r.time ++ [byte r.code.code, byte r.source] ++ beBytes 4 r.arg ++ beBytes 2 r.lost

/-- The bytes of a record. -/
def Record.bytes : Record → List Byte
  | .wire r => r.bytes
  | .pull r => r.bytes
  | .strip r => r.bytes
  | .event r => r.bytes

/-! ## Reading and releasing (R156 to R158) -/

/-- Records per reply (R156). -/
def replyLimit : RegionId → Nat
  | .bondA => 4
  | .bondB => 4
  | .pull => 7
  | .strip => 1
  | .event => 14

/-- READ_RECORDS (R156); the region is tested before the number (log 50). -/
def handleReadRecords (p : Payload) (s : State) : State × Payload :=
  let wanted := (p.getD 1 0).toNat
  if p.length ≠ 2 then (s, refusal .badLength 0)
  else
    match regionOf (p.headD 0).toNat with
    | none => (s, refusal .badValue 1)
    | some i =>
      if wanted < 1 ∨ 14 < wanted then (s, refusal .badValue 2)
      else
        let rs := (s.rm.get i).records.take (min wanted (replyLimit i))
        (s, replyOk (byte i.code :: byte rs.length :: rs.flatMap Record.bytes))

/-- The watermark rule after a release (R155). -/
def Region.watermarkFall (r : Region) : Region :=
  if r.committed < r.watermark then { r with above := false } else r

/-- RELEASE_RECORDS of n records of a region (R157). -/
def State.release (s : State) (i : RegionId) (n : Nat) : State × Payload :=
  let r := s.rm.get i
  let k := min n r.committed
  let cut := { r with records := r.records.drop k }
  let reply := replyOk (beBytes 2 k ++ beBytes 4 cut.oldestSerial)
  if k = 0 then (s, reply) else ((s.setRegion i cut.watermarkFall).roomFell i, reply)

/-- RELEASE_RECORDS (R157). -/
def handleReleaseRecords (p : Payload) (s : State) : State × Payload :=
  if p.length ≠ 3 then (s, refusal .badLength 0)
  else
    match regionOf (p.headD 0).toNat with
    | none => (s, refusal .badValue 1)
    | some i => s.release i (beNat (p.drop 1))

/-- What REGION_STATUS reports (R158). -/
def Region.statusBytes (r : Region) (i : RegionId) : List Byte :=
  [byte r.first, byte r.last, byte (cellsPerRecord i)] ++ beBytes 2 (r.capacity i) ++ beBytes 2 r.committed ++
    beBytes 2 r.reserved ++ beBytes 2 r.watermark ++ [boolByte r.above ||| boolByte r.waiting <<< 1] ++
    beBytes 4 r.nextSerial ++ beBytes 4 r.oldestSerial ++ beBytes 2 r.lost

/-- REGION_STATUS (R158). -/
def handleRegionStatus (p : Payload) (s : State) : State × Payload :=
  if p.length ≠ 1 then (s, refusal .badLength 0)
  else
    match regionOf (p.headD 0).toNat with
    | none => (s, refusal .badValue 1)
    | some i => (s, replyOk ((s.rm.get i).statusBytes i))

/-! ## Changing the regions (R159) -/

/-- New bounds and watermark of one region. -/
structure Bounds where
  first : Nat
  last : Nat
  watermark : Nat
deriving DecidableEq, Repr

/-- The bounds given for region code k. -/
def boundsOf (p : Payload) (k : Nat) : Bounds :=
  let q := p.drop (4 * (k - 1))
  ⟨(q.getD 0 0).toNat, (q.getD 1 0).toNat, beNat ((q.drop 2).take 2)⟩

/-- The bounds of the five regions in code order. -/
def allBounds (p : Payload) : List (RegionId × Bounds) := allRegions.map fun i => (i, boundsOf p i.code)

/-- Test 5: the field number of the first block number above 63. -/
def badBlock : List (RegionId × Bounds) → Option Nat
  | [] => none
  | (i, b) :: rest =>
    if 63 < b.first then some (3 * (i.code - 1) + 1)
    else if 63 < b.last then some (3 * (i.code - 1) + 2)
    else badBlock rest

/-- Two ranges share a block. -/
def Bounds.meets (x y : Bounds) : Bool := decide (x.first ≤ y.last ∧ y.first ≤ x.last)

/-- Test 6: the regions in code order, each against those of lower code. -/
def badRegion (lower : List Bounds) : List (RegionId × Bounds) → Option Payload
  | [] => none
  | (i, b) :: rest =>
    if b.last < b.first then some (refusal .conflict i.code)
    else if lower.any b.meets then some (refusal .conflict i.code)
    else if capacityOf i b.first b.last < b.watermark then some (refusal .badValue (3 * (i.code - 1) + 3))
    else badRegion (b :: lower) rest

/-- The region given by new bounds: empty (R159). -/
def regionFrom (p : Payload) (i : RegionId) : Region :=
  let b := boundsOf p i.code
  .empty b.first b.last b.watermark

/-- The RM given by new bounds (R159). -/
def rmFrom (p : Payload) : Rm :=
  { bondA := regionFrom p .bondA, bondB := regionFrom p .bondB, pull := regionFrom p .pull,
    strip := regionFrom p .strip, event := regionFrom p .event }

/-- SET_REGIONS (R159). -/
def handleSetRegions (p : Payload) (s : State) : State × Payload :=
  if p.length ≠ 20 then (s, refusal .badLength 0)
  else if s.cmc.mode ≠ .setup then (s, refusal .wrongMode 0)
  else if !s.trackEmpty then (s, refusal .trackOccupied 0)
  else if allRegions.any fun i => decide (0 < (s.rm.get i).reserved) then (s, refusal .conflict 8)
  else
    match badBlock (allBounds p) with
    | some n => (s, refusal .badValue n)
    | none =>
      match badRegion [] (allBounds p) with
      | some r => (s, r)
      | none => taken (s.setRm (rmFrom p))

end Sys2Proof.Machine
end

