-- ==== Sys2Proof/Machine/Requests.lean ====
section
/-! DEFINITION. The requests of the CMC (chapter 11), the heads (2.7, 2.8, 5.2, 5.3), the TRC (6.4, 6.9), the DLC (7.8), the PSC
(8.5 to 8.7) and the SLI (12.6). A handler takes the payload and the state, and answers the next state and the reply's
payload. -/

namespace Sys2Proof.Machine

open Sys2Proof

/-- A request without payload. -/
def noPayload (p : Payload) (s : State) (f : State → State × Payload) : State × Payload :=
  if p = [] then f s else (s, refusal .badLength 0)

/-! ## The Station Link (R201, R202) -/

/-- IDENTIFY (R201). -/
def handleIdentify (p : Payload) (s : State) : State × Payload :=
  noPayload p s fun s =>
    (s, replyOk
      ([0x4B, 0x42, 0x32, byte Config.revision, boolByte s.link.fast, byte Config.rxQueueSize,
        byte Config.noticeQueueSize] ++ beBytes 2 512 ++ [64, 32, 5] ++ beBytes 2 4096 ++ [24, 32]))

/-- LINK_ECHO (R202). -/
def handleLinkEcho (p : Payload) (s : State) : State × Payload :=
  if p.length ≤ 247 then (s, replyOk p) else (s, refusal .badLength 0)

/-! ## Cell modes (R180 to R191) -/

/-- The refusal of SET_MODE RUN (R180): none when the five tests pass. -/
def State.runRefusal (s : State) : Option Payload :=
  if s.cmc.mode = .halt then some (refusal .wrongMode 0)
  else if s.cmc.hold.isSome then some (refusal .held 0)
  else if s.cmc.lot ≠ .opened then some (refusal .notLoaded 1)
  else
    match checkRecipe s.rs with
    | some f => some (refusal .notLoaded 2 (failureBytes (some f)))
    | none => if s.cmc.trackCheck then none else some (refusal .notLoaded 3)

/-- SET_MODE (R180, R183). -/
def handleSetMode (p : Payload) (s : State) : State × Payload :=
  if p.length ≠ 1 then (s, refusal .badLength 0)
  else
    match (p.headD 0).toNat with
    | 0 =>
      if s.cmc.mode = .setup then taken s
      else if s.cmc.mode = .halt ∧ s.cmc.haltInput then (s, refusal .wrongMode 0)
      else taken (s.changeMode .setup 1)
    | 1 =>
      if s.cmc.mode = .run then taken s
      else
        match s.runRefusal with
        | some r => (s, r)
        | none => taken (s.changeMode .run 1)
    | 2 =>
      if s.cmc.mode = .drain then taken s
      else if s.cmc.mode = .run then taken (s.changeMode .drain 1)
      else (s, refusal .wrongMode 0)
    | _ => (s, refusal .badValue 1)

/-- The lot close waiting field (R191). -/
def State.closeWaiting (s : State) : Byte :=
  if s.cmc.lot = .closing then
    boolByte (s.cmc.mode != .setup) ||| boolByte (!s.trackEmpty) <<< 1 ||| boolByte (!s.psc.queue.isEmpty) <<< 2
  else 0

/-- GET_CELL_STATUS (R191). -/
def handleGetCellStatus (p : Payload) (s : State) : State × Payload :=
  noPayload p s fun s =>
    let c := s.cmc
    (s, replyOk
      ([byte c.mode.code, byte c.cause, byte c.lot.code] ++ beBytes 4 c.lotId ++
        [boolByte c.hold.isSome, byte ((c.hold.map HoldCause.code).getD 0)] ++
        beBytes 4 ((c.hold.map HoldCause.serial).getD 0) ++
        [boolByte c.trackCheck, boolByte c.haltInput, boolByte c.alert] ++ maskBytes c.conditions ++
        maskBytes c.enables ++ beBytes 4 c.cellTime ++ [s.closeWaiting]))

/-- A lot opened (R184). -/
def State.openLot (s : State) (id : Nat) : State :=
  let s1 := s.setCmc { s.cmc with lot := .opened, lotId := id }
  let s2 := s1.setStu { s1.stu with fed := 0 }
  let s3 := s2.setPsc { s2.psc with counter := 0, stats := .zero }
  let s4 := s3.setTrc s3.trc.renumber
  ((s4.writeEvent .lotStart sourceCmc id).handNotice (.lot .opened id)).testFeed

/-- START_LOT (R184). -/
def handleStartLot (p : Payload) (s : State) : State × Payload :=
  if p.length ≠ 4 then (s, refusal .badLength 0)
  else if s.cmc.mode ≠ .setup then (s, refusal .wrongMode 0)
  else if s.cmc.lot ≠ .none then (s, refusal .conflict 0)
  else taken (s.openLot (beNat p))

/-- The open lot made CLOSING (R185). -/
def State.closeLot (s : State) : State :=
  let s1 := (s.setCmc { s.cmc with lot := .closing }).testFeed
  (if s.cmc.mode = .run then s1.changeMode .drain 3 else s1).lotCloseTest

/-- END_LOT (R185). -/
def handleEndLot (p : Payload) (s : State) : State × Payload :=
  noPayload p s fun s =>
    match s.cmc.lot with
    | .none => (s, refusal .notLoaded 0)
    | .closing => taken s
    | .opened => taken s.closeLot

/-- SET_HOLD (R186). -/
def handleSetHold (p : Payload) (s : State) : State × Payload := noPayload p s fun s => taken (s.setQualityHold .host)

/-- CLEAR_HOLD (R187). -/
def handleClearHold (p : Payload) (s : State) : State × Payload := noPayload p s fun s => taken (s.clearQualityHold 1)

/-- HALT (R182). -/
def handleHalt (p : Payload) (s : State) : State × Payload :=
  noPayload p s fun s => taken (if s.cmc.mode = .halt then s else s.enterHalt 7)

/-- READ_CONDITIONS (R190). -/
def handleReadConditions (p : Payload) (s : State) : State × Payload :=
  noPayload p s fun s =>
    (s, replyOk (maskBytes s.cmc.conditions ++ maskBytes s.cmc.enables ++ [boolByte s.cmc.alert]))

/-- A mask of conditions (R190): its length and value refusals, else what to do with it. -/
def withMask (p : Payload) (s : State) (f : State → BitVec 22 → State × Payload) : State × Payload :=
  if p.length ≠ 4 then (s, refusal .badLength 0)
  else if 2 ^ 22 ≤ beNat p then (s, refusal .badValue 1)
  else f s (BitVec.ofNat 22 (beNat p))

/-- CLEAR_CONDITIONS (R165, R190): PANEL_UNLOCKED is cleared only while the lock input reads LOCKED. -/
def handleClearConditions (p : Payload) (s : State) : State × Payload :=
  withMask p s fun s mask =>
    let cleared := if s.pnc.locked then mask else mask &&& ~~~Condition.panelUnlocked.bit
    let set := s.cmc.conditions &&& ~~~cleared
    (s.setCmc { s.cmc with conditions := set }, replyOk (maskBytes set))

/-- The conditions of a mask in ascending id order. -/
def conditionsIn (mask : BitVec 22) : List Condition := allConditions.filter fun c => mask.getLsbD c.id

/-- A CONDITION notice of each listed condition. -/
def State.noticeConditions (s : State) (cs : List Condition) : State :=
  cs.foldl (fun s c => s.handNotice (.condition c.id s.cmc.conditions)) s

/-- SET_ALERT_ENABLES (R190). -/
def handleSetAlertEnables (p : Payload) (s : State) : State × Payload :=
  withMask p s fun s mask =>
    let fresh := mask &&& ~~~s.cmc.enables &&& s.cmc.conditions
    taken ((s.setCmc { s.cmc with enables := mask }).noticeConditions (conditionsIn fresh))

/-- WARM_RESTART (R192): the reset follows once the reply has left the link (R203). -/
def handleWarmRestart (p : Payload) (s : State) : State × Payload :=
  noPayload p s fun s =>
    if s.cmc.mode ≠ .setup then (s, refusal .wrongMode 0)
    else if !s.trackEmpty then (s, refusal .trackOccupied 0)
    else if s.psc.queue ≠ [] then (s, refusal .conflict 0)
    else taken (s.setLink { s.link with restart := .replyPending })

/-! ## Heads (R44, R45, R85, R90) -/

/-- A request that names a head in its one-byte payload (R44, R45, R90). -/
def withHead (p : Payload) (s : State) (f : State → HeadId → State × Payload) : State × Payload :=
  if p.length ≠ 1 then (s, refusal .badLength 0)
  else
    match headOf (p.headD 0).toNat with
    | none => (s, refusal .badValue 1)
    | some h => f s h

/-- The flags of HEAD_STATUS in the order R45 lists them, from bit 0 (log 13). -/
def State.headFlags (s : State) (h : HeadId) : Byte :=
  let x := s.head h
  boolByte x.unit.isSome ||| boolByte (s.stu.grant == some h) <<< 1 ||| boolByte x.wantsBand <<< 2 |||
    boolByte x.restartSpark <<< 3 ||| boolByte x.posOp.isSome <<< 4 ||| boolByte x.wireBreak <<< 5

/-- What HEAD_STATUS reports (R45). -/
def State.headStatusBytes (s : State) (h : HeadId) : List Byte :=
  let x := s.head h
  let u := x.unit.getD ⟨0, 0, 0⟩
  [byte x.state.code, byte (Phase.code x.phase), byte (HeadGate.code x.gate), byte (Reason.codeOpt x.reason),
    s.headFlags h] ++ beBytes 2 u.strip ++ [byte u.row, byte u.col] ++
    beBytes 2 (if x.unit.isSome then x.wireIndex else 0) ++ [byte x.failCount] ++ beBytes 4 x.nCap ++
    beBytes 4 x.spool ++ beBytes 2 x.wireFeed ++ beBytes 2 (x.lastZc.getD 0) ++ beBytes 2 (x.lastZe.getD 0)

/-- HEAD_STATUS (R45). -/
def handleHeadStatus (p : Payload) (s : State) : State × Payload :=
  withHead p s fun s h => (s, replyOk (s.headStatusBytes h))

/-- RESUME_HEAD (R44). -/
def handleResumeHead (p : Payload) (s : State) : State × Payload :=
  withHead p s fun s h =>
    match (s.head h).resumeRefusal, (s.head h).reason with
    | some r, _ => (s, r)
    | none, some why => taken (s.resume h why)
    | none, none => (s, refusal .wrongMode 0)

/-- A capillary count taken (R85). -/
def State.setCapillary (s : State) (h : HeadId) (n : Nat) : State :=
  let s1 := s.setHead h { s.head h with nCap := n }
  let s2 := if n < (s.config h).warningLevel then s1.rearmCap h else s1.judgeCap h
  s2.writeEvent .capChanged (sourceHead h) n

/-- SET_CAPILLARY_COUNT (R85); the values are judged before the head's state (log 41). -/
def handleSetCapillaryCount (p : Payload) (s : State) : State × Payload :=
  let n := beNat (p.drop 1)
  if p.length ≠ 5 then (s, refusal .badLength 0)
  else
    match headOf (p.headD 0).toNat with
    | none => (s, refusal .badValue 1)
    | some h =>
      if 4000000 < n then (s, refusal .badValue 2)
      else if (s.head h).state = .active then (s, refusal .wrongMode 0)
      else taken (s.setCapillary h n)

/-- A full spool taken (R90). -/
def State.fillSpool (s : State) (h : HeadId) : State :=
  let full := (s.config h).fullPulses
  ((s.setHead h { s.head h with spool := full }).rearmSpool h).writeEvent .spoolLoaded (sourceHead h) full

/-- LOAD_SPOOL (R90). -/
def handleLoadSpool (p : Payload) (s : State) : State × Payload :=
  withHead p s fun s h =>
    if (s.head h).state = .active then (s, refusal .wrongMode 0) else taken (s.fillSpool h)

/-! ## Track (R103, R116, R117) -/

/-- The bad-unit set: bit 0 of the first byte is unit index 0 (R103). -/
def badUnits (bs : List Byte) : BitVec 192 := BitVec.ofNat 192 (bs.foldr (fun b acc => b.toNat + 256 * acc) 0)

/-- The queue with an entry replaced in place or appended; none when it is full (R103). -/
def putMap (maps : List StripMap) (e : StripMap) : Option (List StripMap) :=
  if maps.any fun x => x.mag == e.mag && x.slot == e.slot then
    some (maps.map fun x => if x.mag = e.mag ∧ x.slot = e.slot then e else x)
  else if maps.length < Config.stripMapSize then some (maps ++ [e])
  else none

/-- STRIP_MAP (R103); the magazine number is tested before the slot (log 50). -/
def handleStripMap (p : Payload) (s : State) : State × Payload :=
  let mag := (p.headD 0).toNat
  let slot := (p.getD 1 0).toNat
  let m := s.trc.inMag
  if p.length ≠ 26 then (s, refusal .badLength 0)
  else if mag = 0 then (s, refusal .badValue 1)
  else if slot < 1 ∨ 64 < slot then (s, refusal .badValue 2)
  else if mag = m.number ∧ (m.state = .absent ∨ m.slot slot = .taken) then (s, refusal .noSuch 0)
  else
    match putMap s.trc.maps ⟨mag, slot, badUnits (p.drop 2)⟩ with
    | none => (s, refusal .full 0)
    | some maps => taken (s.setTrc { s.trc with maps := maps })

/-- R116. -/
def Clamp.code : Clamp → Nat
  | .opened => 0
  | .closed => 1
  | .unknown => 2

/-- R116. -/
def SeqState.code : SeqState → Nat
  | .idle => 0
  | .unclamp => 1
  | .index => 2
  | .clamp => 3

/-- R116. -/
def Dwell.code : Dwell → Nat
  | .none => 0
  | .running _ => 1
  | .done => 2

/-- R116. -/
def Heat.code : Heat → Nat
  | .unknown => 0
  | .inBand => 1
  | .outOfBand => 2

/-- R116; 0 is none. -/
def FeedGate.code : Option FeedGate → Nat
  | none => 0
  | some .mode => 1
  | some .lot => 2
  | some .serial => 3
  | some .load => 4
  | some .moving => 5
  | some .magazine => 6
  | some .record => 7

/-- The dwell remaining in ms (R116); 0 once the expiry time has passed. -/
def State.dwellRemaining (s : State) : Nat :=
  match s.trc.dwell with
  | .running t =>
    let r := (t + 4294967296 - s.cmc.cellTime) % 4294967296
    if r ≤ 60000 then r else 0
  | _ => 0

/-- Serial at a station, 0 when empty. -/
def State.serialAt (s : State) (st : Station) : Nat := ((s.stripAt st).map (·.serial)).getD 0

/-- What TRACK_STATUS reports (R116). -/
def State.trackStatusBytes (s : State) : List Byte :=
  let t := s.trc
  ([Station.load, .preheat, .bond, .verify, .exit].flatMap fun st => beBytes 2 (s.serialAt st)) ++
    [byte t.clamp.code, byte (t.seq.code + if t.seqStopped then 128 else 0),
      boolByte t.stopInput ||| boolByte t.stopSequence <<< 1 ||| boolByte t.stopOutput <<< 2, byte t.dwell.code] ++
    beBytes 2 s.dwellRemaining ++
    [boolByte ((s.stripAt .bond).any (·.complete)), boolByte t.pullsDone, boolByte t.handedOver, byte t.heat.code] ++
    beBytes 2 t.lastTemp ++
    [byte (FeedGate.code t.feedGate), boolByte t.push.isSome, boolByte t.store.isSome, byte t.maps.length]

/-- TRACK_STATUS (R116). -/
def handleTrackStatus (p : Payload) (s : State) : State × Payload :=
  noPayload p s fun s => (s, replyOk s.trackStatusBytes)

/-- R117. -/
def InMagState.code : InMagState → Nat
  | .absent => 0
  | .scanning => 1
  | .ready => 2
  | .exhausted => 3
  | .fault => 4

/-- R117. -/
def InSlot.code : InSlot → Nat
  | .unknown => 0
  | .empty => 1
  | .loaded => 2
  | .taken => 3
  | .jammed => 4

/-- R117. -/
def OutMagState.code : OutMagState → Nat
  | .absent => 0
  | .ready => 1
  | .full => 2

/-- State code and strip serial of an output slot (R117). -/
def OutSlot.bytes : OutSlot → List Byte
  | .unknown => [0, 0, 0]
  | .empty => [1, 0, 0]
  | .filled serial => 2 :: beBytes 2 serial
  | .jammed => [4, 0, 0]

/-- What MAGAZINE_STATUS reports of the input magazine (R117); slots above the count read 0. -/
def InMag.statusBytes (m : InMag) : List Byte :=
  [byte m.state.code, byte m.number, byte m.count, byte (m.scanSlot.getD 0)] ++
    (List.range' 1 64).map fun k => if k ≤ m.count then byte (m.slot k).code else 0

/-- What MAGAZINE_STATUS reports of the output magazine (R117). -/
def OutMag.statusBytes (m : OutMag) : List Byte :=
  [byte m.state.code, byte m.number, byte m.count] ++ (List.range' 1 64).flatMap fun k => (m.slot k).bytes

/-- MAGAZINE_STATUS (R117). -/
def handleMagazineStatus (p : Payload) (s : State) : State × Payload :=
  if p.length ≠ 1 then (s, refusal .badLength 0)
  else
    match (p.headD 0).toNat with
    | 1 => (s, replyOk s.trc.inMag.statusBytes)
    | 2 => (s, replyOk s.trc.outMag.statusBytes)
    | _ => (s, refusal .badValue 1)

/-! ## Drive Line (R130) -/

/-- Line state code (R130). -/
def LineState.code : LineState → Nat
  | .free => 0
  | .command _ _ => 1
  | .poll _ _ => 2
  | .stop => 3

/-- Ten bytes of one drive (R130). -/
def State.driveBytes (s : State) (d : Drive) : List Byte :=
  let x := s.dlc.drives.get d
  let since := if x.stage = .outstanding then (s.cmc.cellTime + 4294967296 - x.acceptAt) % 4294967296 else 0
  [byte x.stage.code, x.opCode] ++ beBytes 2 (min since 65535) ++
    beBytes 2 (if x.stage = .outstanding then x.timeout else 0) ++
    [boolByte x.attention, byte x.lastFault.kind.code, x.lastFault.op, x.lastFault.code]

/-- DRIVE_STATUS (R130). -/
def handleDriveStatus (p : Payload) (s : State) : State × Payload :=
  noPayload p s fun s =>
    (s, replyOk ([byte s.dlc.line.code, byte s.dlc.queue.length] ++ allDrives.flatMap s.driveBytes))

/-! ## Pull station (R142, R146, R147) -/

/-- CLASSIFY (R142). -/
def handleClassify (p : Payload) (s : State) : State × Payload :=
  let serial := beNat (p.take 4)
  let mode := (p.getD 4 0).toNat
  if p.length ≠ 5 then (s, refusal .badLength 0)
  else if mode < 1 ∨ 5 < mode then (s, refusal .badValue 2)
  else
    match s.staged serial with
    | none => (s, refusal .noSuch 0)
    | some x =>
      (s.classifyPull x mode .host,
        replyOk ((if finalPass s.rs.plan x mode then 1 else 2) :: beBytes 4 s.rm.pull.nextSerial))

/-- The mean force, formed when read (R145). -/
def PullStats.mean (t : PullStats) : Nat := if t.count = 0 then 0 else t.sum / t.count

/-- LOT_STATS (R146); SUM_SATURATED in bit 0 of its flags (log 13). -/
def handleLotStats (p : Payload) (s : State) : State × Payload :=
  noPayload p s fun s =>
    let t := s.psc.stats
    (s, replyOk
      (beBytes 4 s.psc.counter ++ beBytes 4 t.count ++ beBytes 4 t.pass ++ beBytes 4 t.fail ++ beBytes 4 t.noPull ++
        beBytes 4 t.sum ++ beBytes 2 t.min ++ beBytes 2 t.max ++ beBytes 2 t.mean ++
        [boolByte t.saturated, byte s.psc.queue.length]))

/-- R147. -/
def PullState.code : PullState → Nat
  | .idle => 0
  | .waiting => 1
  | .pulling => 2
  | .stopped => 3

/-- R147; 0 is none. -/
def PullGate.code : Option PullGate → Nat
  | none => 0
  | some .mode => 1
  | some .queue => 2
  | some .record => 3

/-- A staged record as PULL_QUEUE_STATUS reports it (R147). -/
def Staged.bytes (x : Staged) : List Byte :=
  beBytes 4 x.serial ++ beBytes 2 x.strip ++ [byte x.entry.row, byte x.entry.col] ++ beBytes 2 x.entry.wire ++
    [byte x.entry.origin.code, if x.provisionalFail then 2 else 1] ++ beBytes 2 x.force

/-- PULL_QUEUE_STATUS (R147). -/
def handlePullQueueStatus (p : Payload) (s : State) : State × Payload :=
  let k := (p.headD 0).toNat
  if p.length ≠ 1 then (s, refusal .badLength 0)
  else if k < 1 ∨ 32 < k then (s, refusal .badValue 1)
  else
    let q := s.psc
    let xs := (q.queue.drop (k - 1)).take 16
    (s, replyOk
      ([byte q.state.code, byte (PullGate.code q.gate)] ++ beBytes 2 (q.strip.getD 0) ++
        [byte q.listLength, byte q.next, byte q.queue.length, byte xs.length] ++ xs.flatMap Staged.bytes))

end Sys2Proof.Machine
end

