-- ==== Sys2Proof/Machine/Panel.lean ====
section
/-! DEFINITION. The Operator Panel (chapter 10): timing, screens and their fields, views and patterns, the frame, prompts, keys
and the tone. -/

namespace Sys2Proof.Machine

open Sys2Proof

/-! ## Display timing (R163) -/

/-- Fields of SET_PANEL_TIMING. -/
def timingFields : List FieldSpec :=
  [⟨2, 320, 1280, false, 1⟩, ⟨2, 1, 255, false, 1⟩, ⟨2, 1, 1023, false, 1⟩, ⟨2, 1, 1023, false, 1⟩,
   ⟨2, 240, 800, false, 1⟩, ⟨2, 1, 255, false, 1⟩, ⟨2, 1, 1023, false, 1⟩, ⟨2, 1, 1023, false, 1⟩, ⟨1, 0, 3, false, 1⟩,
   ⟨1, 0, 3, false, 1⟩]

/-- The timing of its field values. -/
def timingOf (v : List Int) : Timing :=
  { hActive := fieldNat v 1, hSync := fieldNat v 2, hBack := fieldNat v 3, hFront := fieldNat v 4,
    vActive := fieldNat v 5, vSync := fieldNat v 6, vBack := fieldNat v 7, vFront := fieldNat v 8,
    polarity := fieldNat v 9, rate := fieldNat v 10 }

/-- SET_PANEL_TIMING (R163). -/
def handleSetPanelTiming (p : Payload) (s : State) : State × Payload :=
  let v := fieldValues timingFields p
  if p.length ≠ 18 then (s, refusal .badLength 0)
  else
    match valueRefusal timingFields v [] with
    | some r => (s, r)
    | none => taken (s.setPnc { s.pnc with pendingTiming := some (timingOf v) })

/-! ## Loading screens (R167, R168) -/

/-- An empty template with its keys-to-host flag (R167, BEGIN). -/
def Template.blank (keysToHost : Bool) : Template :=
  { keysToHost := keysToHost, cells := Vector.replicate 2400 0x20, fields := [] }

/-- Index of a template cell. -/
def cellIndex (row col : Nat) : Nat := (row - 1) * 80 + (col - 1)

/-- Characters written from a cell index on. -/
def writeChars (cells : Vector Byte 2400) : Nat → List Byte → Vector Byte 2400
  | _, [] => cells
  | i, c :: cs => writeChars (cells.setIfInBounds i c) (i + 1) cs

/-- A character of the display (R167, R174). -/
def printable (c : Byte) : Bool := decide (0x20 ≤ c.toNat) && decide (c.toNat ≤ 0x7E)

/-- The field of its six bytes. -/
def fieldOf (bs : List Byte) : ScreenField :=
  { row := (bs.getD 0 0).toNat, col := (bs.getD 1 0).toNat, width := (bs.getD 2 0).toNat,
    var := beNat ((bs.drop 3).take 2), format := (bs.getD 5 0).toNat }

/-- k fields of their bytes in order. -/
def fieldsOf : Nat → List Byte → List ScreenField
  | 0, _ => []
  | k + 1, bs => fieldOf (bs.take 6) :: fieldsOf k (bs.drop 6)

/-- The formats a variable allows (R168): DEC 1, STATE 2, BAR 3; none for no variable. -/
def formatsOf (var : Nat) : List Nat :=
  match var with
  | 1 | 2 | 4 | 5 | 6 | 13 => [1, 2]
  | 3 | 11 | 12 | 15 | 16 | 19 => [1]
  | 7 | 8 | 9 | 10 | 14 | 17 | 18 | 20 => [1, 3]
  | _ => []

/-- The first failing item of a field, 1 to 5 (R168, log 14). -/
def ScreenField.badItem (f : ScreenField) : Option Nat :=
  if f.row < 1 ∨ 30 < f.row then some 1
  else if f.col < 1 ∨ 80 < f.col then some 2
  else if f.width < 1 ∨ 20 < f.width ∨ 80 < f.col + f.width - 1 then some 3
  else if (formatsOf f.var).contains f.format then none
  else some 5

/-- The item number of the first failing field from position j on (R167). -/
def badField : Nat → List ScreenField → Option Nat
  | _, [] => none
  | j, f :: fs =>
    match f.badItem with
    | some k => some (3 + 5 * (j - 1) + k)
    | none => badField (j + 1) fs

/-- The build open for this slot (R167): else NO_SUCH or CONFLICT. -/
def withBuild (s : State) (slot : Nat) (f : Template → State × Payload) : State × Payload :=
  match s.pnc.build with
  | none => (s, refusal .noSuch 0)
  | some (n, t) => if n = slot then f t else (s, refusal .conflict 0)

/-- The state with a new build. -/
def State.setBuild (s : State) (b : Option (Nat × Template)) : State := s.setPnc { s.pnc with build := b }

/-- The slot byte of a LOAD_SCREEN part: the payload after the part byte starts with it (R167). -/
def withSlot (rest : Payload) (s : State) (f : Nat → State × Payload) : State × Payload :=
  if 7 < (rest.headD 0).toNat then (s, refusal .badValue 2) else f (rest.headD 0).toNat

/-- LOAD_SCREEN part 1, BEGIN (R167). -/
def handleScreenBegin (rest : Payload) (s : State) : State × Payload :=
  if rest.length ≠ 2 then (s, refusal .badLength 0)
  else
    withSlot rest s fun slot =>
      let flag := rest.getD 1 0
      if 1 < flag.toNat then (s, refusal .badValue 3) else taken (s.setBuild (some (slot, .blank (flag == 1))))

/-- LOAD_SCREEN part 2, TEXT (R167); a text longer than 80 runs past column 80 (log 30). -/
def handleScreenText (rest : Payload) (s : State) : State × Payload :=
  let row := (rest.getD 1 0).toNat
  let col := (rest.getD 2 0).toNat
  let text := rest.drop 3
  if rest.length < 4 then (s, refusal .badLength 0)
  else
    withSlot rest s fun slot => withBuild s slot fun t =>
      if row < 1 ∨ 30 < row then (s, refusal .badValue 3)
      else if col < 1 ∨ 80 < col ∨ 80 < col + text.length - 1 then (s, refusal .badValue 4)
      else if !text.all printable then (s, refusal .badValue 5)
      else taken (s.setBuild (some (slot, { t with cells := writeChars t.cells (cellIndex row col) text })))

/-- LOAD_SCREEN part 3, FIELDS (R167, R168). -/
def handleScreenFields (rest : Payload) (s : State) : State × Payload :=
  let k := (rest.getD 1 0).toNat
  let fs := fieldsOf k (rest.drop 2)
  if rest.length < 2 ∨ rest.length ≠ 2 + 6 * k then (s, refusal .badLength 0)
  else
    withSlot rest s fun slot => withBuild s slot fun t =>
      if k < 1 ∨ 24 < k then (s, refusal .badValue 3)
      else
        match badField 1 fs with
        | some n => (s, refusal .badValue n)
        | none =>
          if 48 < t.fields.length + k then (s, refusal .full 0)
          else taken (s.setBuild (some (slot, { t with fields := t.fields ++ fs })))

/-- LOAD_SCREEN part 4, COMMIT (R167). -/
def handleScreenCommit (rest : Payload) (s : State) : State × Payload :=
  if rest.length ≠ 1 then (s, refusal .badLength 0)
  else
    withSlot rest s fun slot => withBuild s slot fun t =>
      taken (s.setPnc { s.pnc with slots := s.pnc.slots.setIfInBounds slot (some t), build := none })

/-- LOAD_SCREEN (R167): the part decides. A part outside 1..4 has no length of its own: a payload without a slot byte is too
short, any longer one is refused for its part (log 45). -/
def handleLoadScreen (p : Payload) (s : State) : State × Payload :=
  match p with
  | [] => (s, refusal .badLength 0)
  | part :: rest =>
    match part.toNat with
    | 1 => handleScreenBegin rest s
    | 2 => handleScreenText rest s
    | 3 => handleScreenFields rest s
    | 4 => handleScreenCommit rest s
    | _ => if rest = [] then (s, refusal .badLength 0) else (s, refusal .badValue 1)

/-! ## Selection (R169, R170) -/

/-- A slot is loaded; slot 0 always is. -/
def Pnc.slotLoaded (p : Pnc) (n : Nat) : Bool := n == 0 || ((p.slots[n]?).bind id).isSome

/-- The PNC with a slot selected. -/
def Pnc.showSlot (p : Pnc) (n : Nat) : Pnc := { p with selection := .view (.slot n), lastSlot := n }

/-- The next loaded slot above the last shown, from 7 round to 0 (R169). -/
def Pnc.slotAbove (p : Pnc) : Nat :=
  (((List.range' 1 8).map fun i => (p.lastSlot + i) % 8).find? p.slotLoaded).getD p.lastSlot

/-- The next loaded slot below the last shown, from 0 round to 7 (R169). -/
def Pnc.slotBelow (p : Pnc) : Nat :=
  (((List.range' 1 8).map fun i => (p.lastSlot + 8 - i) % 8).find? p.slotLoaded).getD p.lastSlot

/-- SHOW_SCREEN (R169). -/
def handleShowScreen (p : Payload) (s : State) : State × Payload :=
  let n := (p.headD 0).toNat
  if p.length ≠ 1 then (s, refusal .badLength 0)
  else if 7 < n then (s, refusal .badValue 1)
  else if s.pnc.slotLoaded n then taken (s.setPnc (s.pnc.showSlot n))
  else (s, refusal .noSuch 0)

/-- The pattern a number names (R170). -/
def patternOf : Nat → Option Pattern
  | 1 => some .bars
  | 2 => some .grid
  | 3 => some .flat
  | _ => none

/-- The selection a pattern returns to: the one it replaces, or that of the pattern already shown (R170). -/
def Selection.behind : Selection → View
  | .view v => v
  | .pattern _ v => v

/-- SHOW_PATTERN (R170). -/
def handleShowPattern (p : Payload) (s : State) : State × Payload :=
  if p.length ≠ 1 then (s, refusal .badLength 0)
  else
    match patternOf (p.headD 0).toNat with
    | none => (s, refusal .badValue 1)
    | some q => taken (s.setPnc { s.pnc with selection := .pattern q s.pnc.selection.behind })

/-! ## Host notes, status, tone (R174, R175, R177) -/

/-- A host note number is in use (R174). -/
def Pnc.noteInUse (p : Pnc) (n : Nat) : Bool := (p.findPrompt .hostNote n).isSome

/-- The lowest note number not in use. -/
def Pnc.freeNote (p : Pnc) : Option Nat := (List.range' 1 Config.hostNotes).find? fun n => !p.noteInUse n

/-- RAISE_PROMPT (R174); severity, length, characters and room are tested in this order (log 50). -/
def handleRaisePrompt (p : Payload) (s : State) : State × Payload :=
  let n := (p.getD 1 0).toNat
  let text := p.drop 2
  if p.length < 2 ∨ p.length ≠ 2 + n then (s, refusal .badLength 0)
  else
    match severityOf (p.headD 0).toNat with
    | none => (s, refusal .badValue 1)
    | some severity =>
      if 60 < n then (s, refusal .badValue 2)
      else if !text.all printable then (s, refusal .badValue 3)
      else
        match s.pnc.freeNote with
        | none => (s, refusal .full 0)
        | some k => (s.raiseNote .hostNote k severity 0 text, replyOk [byte k])

/-- WITHDRAW_PROMPT (R174). -/
def handleWithdrawPrompt (p : Payload) (s : State) : State × Payload :=
  let n := (p.headD 0).toNat
  if p.length ≠ 1 then (s, refusal .badLength 0)
  else if n < 1 ∨ Config.hostNotes < n then (s, refusal .badValue 1)
  else if s.pnc.noteInUse n then taken (s.removePrompt .hostNote n)
  else (s, refusal .noSuch 0)

/-- Selection code (R175). -/
def Selection.code : Selection → Nat
  | .view (.slot n) => n
  | .view .classify => 8
  | .pattern .bars _ => 9
  | .pattern .grid _ => 10
  | .pattern .flat _ => 11

/-- The eight header bytes of PROMPT_STATUS (R175). -/
def Pnc.statusHeader (p : Pnc) : List Byte :=
  [byte p.prompts.length, boolByte p.sounding ||| boolByte p.silenced <<< 1 ||| boolByte p.chirp <<< 2,
    if p.supervisor then 2 else 1, boolByte p.locked, byte p.selection.code, byte ((p.build.map (·.1)).getD 255),
    boolByte p.pendingTiming.isSome,
    boolByte (p.noteInUse 1) ||| boolByte (p.noteInUse 2) <<< 1 ||| boolByte (p.noteInUse 3) <<< 2 |||
      boolByte (p.noteInUse 4) <<< 3]

/-- The eight bytes of one prompt (R175). -/
def Prompt.bytes (p : Prompt) : List Byte :=
  [byte p.kind.code, byte p.source, byte p.severity.code, byte p.arg] ++ beBytes 4 p.time

/-- PROMPT_STATUS (R175). -/
def handlePromptStatus (p : Payload) (s : State) : State × Payload :=
  noPayload p s fun s => (s, replyOk (s.pnc.statusHeader ++ s.pnc.prompts.flatMap Prompt.bytes))

/-- SET_TONE (R177). -/
def handleSetTone (p : Payload) (s : State) : State × Payload :=
  let h := beNat p
  if p.length ≠ 2 then (s, refusal .badLength 0)
  else if h < 125 ∨ 2000 < h then (s, refusal .badValue 1)
  else taken (s.setPnc { s.pnc with h := h })

/-! ## Fields of a screen (R168) -/

/-- Characters as display bytes. -/
def ascii (cs : List Char) : List Byte := cs.map fun c => byte c.toNat

/-- Name of a mode. -/
def Mode.name : Mode → List Char
  | .setup => ['S', 'E', 'T', 'U', 'P']
  | .run => ['R', 'U', 'N']
  | .drain => ['D', 'R', 'A', 'I', 'N']
  | .halt => ['H', 'A', 'L', 'T']

/-- Name of a lot state. -/
def LotState.name : LotState → List Char
  | .none => ['N', 'O', 'N', 'E']
  | .opened => ['O', 'P', 'E', 'N']
  | .closing => ['C', 'L', 'O', 'S', 'I', 'N', 'G']

/-- Name of a head state. -/
def HeadState.name : HeadState → List Char
  | .disabled => ['D', 'I', 'S', 'A', 'B', 'L', 'E', 'D']
  | .idle => ['I', 'D', 'L', 'E']
  | .ready => ['R', 'E', 'A', 'D', 'Y']
  | .active => ['A', 'C', 'T', 'I', 'V', 'E']
  | .suspended => ['S', 'U', 'S', 'P', 'E', 'N', 'D', 'E', 'D']

/-- Name of a heat state. -/
def Heat.name : Heat → List Char
  | .unknown => ['U', 'N', 'K', 'N', 'O', 'W', 'N']
  | .inBand => ['I', 'N']
  | .outOfBand => ['O', 'U', 'T']

/-- A sampled variable: its value (a state's code), its state name, and its bar full scale. -/
structure Sample where
  value : Nat
  name : List Char
  scale : Nat
deriving DecidableEq, Repr

/-- The variables of R168. -/
def State.sample (s : State) (var : Nat) : Sample :=
  match var with
  | 1 => ⟨s.cmc.mode.code, s.cmc.mode.name, 0⟩
  | 2 => ⟨s.cmc.lot.code, s.cmc.lot.name, 0⟩
  | 3 => ⟨s.cmc.lotId, [], 0⟩
  | 4 => if s.cmc.hold.isSome then ⟨1, ['S', 'E', 'T'], 0⟩ else ⟨0, ['C', 'L', 'E', 'A', 'R'], 0⟩
  | 5 => ⟨s.heads.a.state.code, s.heads.a.state.name, 0⟩
  | 6 => ⟨s.heads.b.state.code, s.heads.b.state.name, 0⟩
  | 7 => ⟨s.heads.a.nCap, [], (s.config .a).life⟩
  | 8 => ⟨s.heads.b.nCap, [], (s.config .b).life⟩
  | 9 => ⟨s.heads.a.spool / Config.pulsesPerMetre, [], (s.config .a).spoolSize⟩
  | 10 => ⟨s.heads.b.spool / Config.pulsesPerMetre, [], (s.config .b).spoolSize⟩
  | 11 => ⟨s.serialAt .bond, [], 0⟩
  | 12 => ⟨s.trc.lastTemp, [], 0⟩
  | 13 => ⟨s.trc.heat.code, s.trc.heat.name, 0⟩
  | 14 => ⟨s.psc.queue.length, [], 32⟩
  | 15 => ⟨s.psc.stats.pass, [], 0⟩
  | 16 => ⟨s.psc.stats.fail, [], 0⟩
  | 17 => ⟨s.rm.bondA.committed, [], s.rm.bondA.capacity .bondA⟩
  | 18 => ⟨s.rm.bondB.committed, [], s.rm.bondB.capacity .bondB⟩
  | 19 => ⟨s.cmc.cellTime / 1000, [], 0⟩
  | 20 => ⟨s.pnc.prompts.length, [], 19⟩
  | _ => ⟨0, [], 0⟩

/-- The decimal digits of a number without leading zeros, at most the given number of them. -/
def decimal : Nat → Nat → List Byte
  | 0, _ => []
  | k + 1, n => (if n < 10 then [] else decimal k (n / 10)) ++ [byte (0x30 + n % 10)]

/-- The cells of one field (R168). -/
def fieldCells (f : ScreenField) (x : Sample) : List DisplayCell :=
  let blank := DisplayCell.char 0x20
  let overflow := List.replicate f.width (DisplayCell.char 0x2A)
  match f.format with
  | 1 =>
    let cs := decimal 21 x.value
    if f.width < cs.length then overflow else List.replicate (f.width - cs.length) blank ++ cs.map DisplayCell.char
  | 2 =>
    let cs := ascii x.name
    if f.width < cs.length then overflow else cs.map DisplayCell.char ++ List.replicate (f.width - cs.length) blank
  | _ =>
    let n := if x.scale = 0 then 0 else min f.width (x.value * f.width / x.scale)
    List.replicate n DisplayCell.block ++ List.replicate (f.width - n) blank

/-! ## The frame (R164 to R166) -/

/-- A cell of a screen: the last field over it, else the template's character, else blank. -/
def cellOf (t : Template) (boxes : List (ScreenField × List DisplayCell)) (row col : Nat) : DisplayCell :=
  let base := if row ≤ 30 ∧ col ≤ 80 then (t.cells[cellIndex row col]?).getD 0x20 else 0x20
  boxes.foldl
    (fun acc b =>
      if b.1.row = row ∧ b.1.col ≤ col ∧ col < b.1.col + b.1.width then b.2.getD (col - b.1.col) acc else acc)
    (DisplayCell.char base)

/-- A template drawn on the visible grid above the prompt area (R166). -/
def State.drawScreen (s : State) (t : Template) (columns rows : Nat) : Picture :=
  let boxes := t.fields.map fun f => (f, fieldCells f (s.sample f.var))
  .screen ((List.range' 1 (rows - 2)).map fun r => (List.range' 1 columns).map fun c => cellOf t boxes r c)

/-- What the built-in status screen shows of a head. -/
def State.headSummary (s : State) (h : HeadId) : HeadSummary :=
  let x := s.head h
  { state := x.state, gate := x.gate, reason := x.reason, nCap := x.nCap }

/-- The built-in status screen (R167); its layout of text is not given (log 15). -/
def State.statusScreen (s : State) : StatusScreen :=
  { mode := s.cmc.mode, lot := s.cmc.lot, lotId := s.cmc.lotId, hold := s.cmc.hold,
    heads := ⟨s.headSummary .a, s.headSummary .b⟩,
    stations := [Station.load, .preheat, .bond, .verify, .exit].map s.serialAt, heat := s.trc.heat,
    classifyCount := s.psc.queue.length, supervisor := s.pnc.supervisor }

/-- The mode an F key gives (R143): F1 mode 1 up to F5 mode 5. -/
def keyMode (k : Nat) : Nat := k

/-- Name of a break mode (R10). -/
def modeName : Nat → List Char
  | 1 => ['B', 'A', 'L', 'L', '_', 'L', 'I', 'F', 'T']
  | 2 => ['N', 'E', 'C', 'K']
  | 3 => ['S', 'P', 'A', 'N']
  | 4 => ['H', 'E', 'E', 'L']
  | 5 => ['S', 'T', 'I', 'T', 'C', 'H', '_', 'L', 'I', 'F', 'T']
  | _ => []

/-- The modes of F1 to F5 as the classification view shows them (R169). -/
def classifyKeys : List ClassifyKey :=
  (List.range' 1 5).map fun k => { key := k, mode := keyMode k, name := ascii (modeName (keyMode k)) }

/-- The pixel of BARS at a column of a line (R170): one of eight bars of equal whole width, numbered from the left, or what
the division leaves over (log 38). -/
def barPixel (width x : Nat) : Pixel :=
  if x < 8 * (width / 8) then .bar (x / (width / 8) + 1)
  else
    match Config.barLeftOver width x with
    | some n => .bar n
    | none => .dark

/-- The numbers below a bound that lie at a place within each period. -/
def everyNth (period place bound : Nat) : List Nat := (List.range bound).filter fun x => x % period == place % period

/-- What a pattern draws on a display of given width and height (R170). -/
def patternImage (width height : Nat) : Pattern → PatternImage
  | .bars => .bars ((List.range width).map (barPixel width))
  | .grid => .grid (everyNth 10 Config.gridColumn width) (everyNth 20 Config.gridLine height)
  | .flat => .flat

/-- The pixel of an image at a column and line counted from 0. -/
def PatternImage.pixel (i : PatternImage) (x y : Nat) : Pixel :=
  match i with
  | .bars row => (row[x]?).getD .dark
  | .grid columns lines => if columns.contains x || lines.contains y then .full else .dark
  | .flat => .full

/-- The picture of a view, or of a pattern over the whole display. -/
def State.picture (s : State) (columns rows : Nat) : Selection → Picture
  | .pattern p _ =>
    .pattern s.pnc.timing.hActive s.pnc.timing.vActive (patternImage s.pnc.timing.hActive s.pnc.timing.vActive p)
  | .view .classify => .classify s.psc.queue.head? s.psc.queue.length classifyKeys
  | .view (.slot n) =>
    match (s.pnc.slots[n]?).bind id with
    | some t => s.drawScreen t columns rows
    | none => .status s.statusScreen

/-- Number of further prompts of a severity, below the top prompt. -/
def Pnc.further (p : Pnc) (v : Severity) : Nat := ((p.prompts.drop 1).filter fun q => q.severity == v).length

/-- A row of the visible columns: the characters clipped to them, the rest blank (R166). -/
def displayRow (columns : Nat) (chars : List Byte) : List DisplayCell :=
  (chars.take columns ++ List.replicate (columns - chars.length) 0x20).map .char

/-- The characters of the top prompt (R166): severity, kind and source, then the text of a HOST_NOTE, else the argument
(log 37). -/
def Prompt.line (p : Prompt) : List Byte :=
  Config.promptLead p.severity.code p.kind.code p.source ++
    (if p.kind = .hostNote then p.text else Config.promptArgument p.arg)

/-- The characters of the prompt area's two rows; both blank with the queue empty (R166). -/
def Pnc.promptLines (p : Pnc) : List Byte × List Byte :=
  match p.prompts with
  | [] => ([], [])
  | q :: _ => (q.line, Config.promptCounts (p.further .alarm) (p.further .action) (p.further .info))

/-- The prompt area on the visible columns (R166). -/
def Pnc.promptArea (p : Pnc) (columns : Nat) : PromptArea :=
  { top := p.prompts.head?, furtherAlarm := p.further .alarm, furtherAction := p.further .action,
    furtherInfo := p.further .info, first := displayRow columns p.promptLines.1,
    second := displayRow columns p.promptLines.2 }

/-- The rendered frame (R164, R166): a pattern covers the prompt area (R170). -/
def State.render (s : State) : DisplayFrame :=
  let columns := s.pnc.timing.hActive / 10
  let rows := s.pnc.timing.vActive / 20
  { columns := columns, rows := rows, picture := s.picture columns rows s.pnc.selection,
    prompts := match s.pnc.selection with | .pattern _ _ => none | .view _ => some (s.pnc.promptArea columns) }

/-- The pending timing applied at a frame start, with the relock of a new rate class (R164, R165). -/
def State.applyTiming (s : State) : State :=
  match s.pnc.pendingTiming with
  | none => s
  | some t =>
    let s1 := s.setPnc { s.pnc with timing := t, pendingTiming := none }
    if t.rate ≠ s.pnc.timing.rate then s1.setCondition .panelUnlocked else s1

/-- The serial latched at a frame start (R164). -/
def State.latch (s : State) : Option Nat :=
  if s.pnc.selection = .view .classify then s.psc.queue.head?.map (·.serial) else none

/-- A frame start (R164). -/
def State.startFrame (s : State) : State :=
  let s1 := s.applyTiming
  let s2 := s1.setPnc { s1.pnc with latched := s1.latch }
  s2.setPnc { s2.pnc with frame := some s2.render }

/-! ## Keys (R170, R173, R176) -/

/-- A key taken: one that ends a pattern does nothing else (R170). -/
def State.key (s : State) (f : State → State) : State :=
  match s.pnc.selection with
  | .pattern _ back => s.setPnc { s.pnc with selection := .view back }
  | .view _ => f s

/-- An F key (R143, R176); k is 1 to 5. The flag read is that of the slot's template as it stands, also for a template
committed since the last frame start (R167, log 46). -/
def State.pressF (s : State) (k : Nat) : State :=
  match s.pnc.selection with
  | .pattern _ _ => s
  | .view .classify =>
    match s.pnc.latched.bind s.staged with
    | some x => s.classifyPull x (keyMode k) .panel
    | none => s.chirp
  | .view (.slot n) =>
    match (s.pnc.slots[n]?).bind id with
    | some t => if t.keysToHost then s.handNotice (.key k n) else s.chirp
    | none => s.chirp

/-- The PROMPT_ACK event (R173). -/
def State.promptAck (s : State) (p : Prompt) : State :=
  s.writeEvent .promptAck sourcePnc (argBytes p.kind.code p.source 0 0)

/-- The prompt removed by the PNC, then the event (R173). -/
def State.ackRemoves (s : State) (p : Prompt) : State := (s.removePrompt p.kind p.source).promptAck p

/-- The ACK handed to the raiser of HEAD_STOP (R44, R173). -/
def State.ackHead (s : State) (p : Prompt) : State :=
  match headOf p.source with
  | none => s.chirp
  | some h =>
    match (s.head h).resumeRefusal, (s.head h).reason with
    | none, some why => (s.resume h why).ackRemoves p
    | _, _ => s.chirp

/-- ACK on the top prompt (R173). -/
def State.ackPrompt (s : State) (p : Prompt) : State :=
  match p.kind with
  | .haltActive | .inputChange | .outputChange | .tempOut | .classifyPending => s.chirp
  | .qualityHold => if s.pnc.supervisor then (s.clearQualityHold 2).promptAck p else s.chirp
  | .headStop => s.ackHead p
  | .driveStop => (if p.source = promptTrack then s.ackTrack else s.ackPull).ackRemoves p
  | .trackCheck => (s.setCmc { s.cmc with trackCheck := true }).ackRemoves p
  | .capWarning | .spoolLow | .hostNote => s.ackRemoves p

/-- ACK (R173): a chirp on an empty queue. -/
def State.pressAck (s : State) : State :=
  match s.pnc.prompts with
  | [] => s.chirp
  | p :: _ => s.ackPrompt p

/-- SILENCE (R177). -/
def State.silence (s : State) : State := s.setPnc { s.pnc with silenced := true }.refreshTone

end Sys2Proof.Machine
end

