-- ==== Sys2Proof/Machine/Link.lean ====
section
/-! DEFINITION. The Station Link Interface (chapter 12): dispatch of requests, the receive queue, the receiver, the end of a
frame sent. -/

namespace Sys2Proof.Machine

open Sys2Proof

/-! ## Dispatch (R197, R200) -/

/-- The owner's handler of a request code (R200); none for a code that is no request. -/
def handlerOf (code : Nat) : Option (Payload → State → State × Payload) :=
  match code with
  | 0x01 => some handleIdentify
  | 0x02 => some handleLinkEcho
  | 0x08 => some handleSetMode
  | 0x09 => some handleGetCellStatus
  | 0x0A => some handleStartLot
  | 0x0B => some handleEndLot
  | 0x0C => some handleSetHold
  | 0x0D => some handleClearHold
  | 0x0E => some handleHalt
  | 0x0F => some handleReadConditions
  | 0x10 => some handleClearConditions
  | 0x11 => some handleSetAlertEnables
  | 0x12 => some handleWarmRestart
  | 0x14 => some handleLoadLayout
  | 0x15 => some handleLoadWires
  | 0x16 => some handleLoadBondSet
  | 0x17 => some handleLoadLoop
  | 0x18 => some handleLoadPlan
  | 0x19 => some handleLoadHeadConfig
  | 0x1A => some handleLoadTrackConfig
  | 0x1B => some handleReadRecipeItem
  | 0x1C => some handleCheckRecipe
  | 0x20 => some handleHeadStatus
  | 0x21 => some handleResumeHead
  | 0x22 => some handleSetCapillaryCount
  | 0x23 => some handleLoadSpool
  | 0x24 => some handleStripMap
  | 0x25 => some handleTrackStatus
  | 0x26 => some handleMagazineStatus
  | 0x27 => some handleDriveStatus
  | 0x28 => some handleClassify
  | 0x29 => some handleLotStats
  | 0x2A => some handlePullQueueStatus
  | 0x2C => some handleSetRegions
  | 0x2D => some handleRegionStatus
  | 0x2E => some handleReadRecords
  | 0x2F => some handleReleaseRecords
  | 0x30 => some handleSetPanelTiming
  | 0x31 => some handleLoadScreen
  | 0x32 => some handleShowScreen
  | 0x33 => some handleShowPattern
  | 0x34 => some handleRaisePrompt
  | 0x35 => some handleWithdrawPrompt
  | 0x36 => some handlePromptStatus
  | 0x37 => some handleSetTone
  | _ => none

/-- The code of the reply to a frame (R197). -/
def replyCode (code : Byte) : Byte := if 1 ≤ code.toNat ∧ code.toNat ≤ 0x3F then code + 0x40 else 0x40

/-- The effects and the reply payload of one dispatched frame (R197). -/
def State.handle (s : State) (f : Frame) : State × Payload :=
  match handlerOf f.code.toNat with
  | some h => h f.payload s
  | none => (s, refusal .unknownCode f.code.toNat)

/-- The frame dispatched: its effects, and its reply in the reply slot (R197). -/
def State.dispatch (s : State) (f : Frame) : State :=
  let r := s.handle f
  r.1.setLink { r.1.link with reply := some ⟨replyCode f.code, f.tag, r.2⟩ }

/-- The dispatcher takes the oldest frame while the reply slot is empty (R197); none once a WARM_RESTART has been taken, for
the frames behind it are discarded (R192, R203, log 20). -/
def State.dispatchOne (s : State) : State :=
  match s.link.rxQueue, s.link.reply, s.link.restart with
  | f :: fs, none, .no => (s.setLink { s.link with rxQueue := fs }).dispatch f
  | _, _, _ => s

/-- The transmitter and the dispatcher take turns, at most n times. -/
def State.settle (s : State) : Nat → State
  | 0 => s.txChoose
  | n + 1 => State.settle s.txChoose.dispatchOne n

/-- Transmitter and dispatcher go on as far as they can (R197, R199). -/
def State.settleLink (s : State) : State := s.settle s.link.rxQueue.length

/-! ## Receiving (R195, R196) -/

/-- A good frame offered to the receive queue (R196). -/
def State.enqueueFrame (s : State) (f : Frame) : State :=
  if s.link.rxQueue.length < Config.rxQueueSize then s.setLink { s.link with rxQueue := s.link.rxQueue ++ [f] }
  else s.setCondition .linkOverrun

/-- A good frame arrives: the link goes on as far as it can before and after (R196, R197, R199). -/
def State.offerFrame (s : State) (f : Frame) : State := (s.settleLink.enqueueFrame f).settleLink

/-- The receiver in a new state. -/
def State.setReceiver (s : State) (r : Receiver) : State := s.setLink { s.link with rx := r }

/-- A framing error (R195). -/
def State.framingError (s : State) : State := (s.setReceiver .hunt).setCondition .linkFraming

/-- A frame judged at its second CRC byte (R195). -/
def State.judgeFrame (s : State) (len : Nat) (body : List Byte) (high low : Byte) : State :=
  let s1 := s.setReceiver .hunt
  if beBytes 2 (crc16 (byte len :: body)).toNat = [high, low] then s1.offerFrame (frameOfBody body)
  else s1.setCondition .linkCrc

/-- A byte taken with a good stop bit (R195). -/
def State.receive (s : State) (b : Byte) : State :=
  match s.link.rx with
  | .hunt => if b = 0xA5 then s.setReceiver .length else s
  | .length => if 2 ≤ b.toNat ∧ b.toNat ≤ 250 then s.setReceiver (.body b.toNat []) else s.framingError
  | .body len bytes =>
    let all := bytes ++ [b]
    if len ≤ all.length then s.setReceiver (.crc len all none) else s.setReceiver (.body len all)
  | .crc len bytes none => s.setReceiver (.crc len bytes (some b))
  | .crc len bytes (some high) => s.judgeFrame len bytes high b

/-- A byte taken (R195): a missing stop bit is ignored in HUNT and a framing error elsewhere. -/
def State.receiveByte (s : State) (b : Byte) (stopBit : Bool) : State :=
  if stopBit then s.receive b else if s.link.rx = .hunt then s else s.framingError

/-! ## The end of a frame sent (R199, R203) -/

/-- The last CRC byte has been sent: the transmitter is IDLE, and the reply of a WARM_RESTART makes the reset due. Behind a reset
the frame sent is the one that the IDLE transmitter took at once, STARTED (R199, R203, log 19). -/
def State.frameSent (s : State) : State :=
  let s0 := s.txChoose
  match s0.link.tx with
  | none => s0
  | some _ =>
    let s1 := s0.setLink { s0.link with tx := none }
    if s0.link.restart = .replyPending ∧ s0.link.reply = none then
      s1.setLink { s1.link with restart := .due }
    else s1.settleLink

end Sys2Proof.Machine
end

