-- ==== Sys2Proof/Machine/Reset.lean ====
section
/-! DEFINITION. Power-on reset and warm restart of every block (R20, R46, R79, R95, R118, R131, R148, R162, R178, R192, R193,
R203). -/

namespace Sys2Proof.Machine

open Sys2Proof

/-- The DLC after either reset (R131), with the attention levels given. -/
def dlcAfterReset (attention : Drive → Bool) : Dlc :=
  let at' (d : Drive) : DriveState := { DriveState.idle with attention := attention d }
  { Dlc.powerOn with
    drives :=
      { posA := at' .posA, posB := at' .posB, indexer := at' .indexer, inElevator := at' .inElevator,
        outElevator := at' .outElevator, pull := at' .pull, workHolder := at' .workHolder } }

/-- A head starts (R21, R46): DISABLED, or IDLE with its WIRE_BREAK input read. -/
def State.startHead (s : State) (h : HeadId) : State :=
  if s.enabled h then s.enterIdle h else s.setHead h { s.head h with state := .disabled }

/-- HALT entered when the input is found asserted (R193). -/
def State.startHalt (s : State) : State := if s.cmc.haltInput then s.enterHalt 6 else s

/-- TRACK_CHECK raised while the flag is clear (R188). -/
def State.startTrackCheck (s : State) : State :=
  if s.cmc.trackCheck then s else s.raisePrompt .trackCheck 0 0

/-! ## Power-on (R193) -/

/-- Every block at its power-on values, the pins sampled, before anything is raised. -/
def powerOnState (pins : Pins) (pending : List Instr) : State :=
  { cmc := { Cmc.powerOn with haltInput := pins.haltAsserted }
    rs := .powerOn
    heads := ⟨{ Head.powerOn with wireBreak := pins.wireBreakA }, { Head.powerOn with wireBreak := pins.wireBreakB }⟩
    stu := .powerOn
    trc := .powerOn
    dlc := dlcAfterReset fun d => pins.attention.getLsbD (driveAddress d - 1)
    psc := .powerOn
    rm := .powerOn
    pnc := { Pnc.powerOn with locked := pins.locked, supervisor := pins.supervisor }
    link := { Link.powerOn with fast := pins.fastLink, notices := [.started false pins.fastLink] }
    pending := pending }

/-- The blocks start (R193, log 16): TRACK_CHECK, HALT, then the heads. -/
def State.powerOn (s : State) (pins : Pins) : State :=
  (((powerOnState pins s.pending).startTrackCheck.startHalt).startHead .a).startHead .b

/-! ## Warm restart (R192) -/

/-- A head's warm-restart values (R46, R47, R95). -/
def Head.warm (x : Head) : Head :=
  { Head.powerOn with
    restartSpark := x.restartSpark, nCap := x.nCap, spool := x.spool, wireBreak := x.wireBreak }

/-- A region's warm-restart values (R162). -/
def Region.warm (r : Region) : Region := { r with reserved := 0, waiting := false }

/-- Every block at its warm-restart values, before anything is raised. -/
def State.warmState (s : State) : State :=
  { cmc :=
      { Cmc.powerOn with
        lot := s.cmc.lot, lotId := s.cmc.lotId, trackCheck := s.cmc.trackCheck, haltInput := s.cmc.haltInput }
    rs := s.rs
    heads := ⟨s.heads.a.warm, s.heads.b.warm⟩
    stu := { Stu.powerOn with fed := s.stu.fed }
    trc :=
      { Trc.powerOn with
        inMag := { Trc.powerOn.inMag with number := s.trc.inMag.number, count := s.trc.inMag.count }
        outMag := { Trc.powerOn.outMag with number := s.trc.outMag.number, count := s.trc.outMag.count }
        maps := s.trc.maps }
    dlc := dlcAfterReset fun d => (s.dlc.drives.get d).attention
    psc := { Psc.powerOn with counter := s.psc.counter, stats := s.psc.stats }
    rm :=
      { bondA := s.rm.bondA.warm, bondB := s.rm.bondB.warm, pull := s.rm.pull.warm, strip := s.rm.strip.warm,
        event := s.rm.event.warm }
    pnc :=
      { Pnc.powerOn with
        timing := s.pnc.timing, pendingTiming := s.pnc.pendingTiming, locked := s.pnc.locked,
        supervisor := s.pnc.supervisor, slots := s.pnc.slots, h := s.pnc.h }
    link := { Link.powerOn with fast := s.link.fast, notices := [.started true s.link.fast] }
    pending := s.pending }

/-- The consumable warnings judged again, armed (R95). -/
def State.judgeAgain (s : State) (h : HeadId) : State := (s.judgeCap h).judgeSpool h

/-- The blocks start (R178, R192, R193, log 16): HALT, TRACK_CHECK, the heads, then the consumables. -/
def State.warmRestart (s : State) : State :=
  (((((s.warmState.startHalt).startTrackCheck).startHead .a).startHead .b).judgeAgain .a).judgeAgain .b

/-- The reset of a taken WARM_RESTART takes place: its reply has been sent whole (R192, R203). -/
def Link.resetDue (l : Link) : Bool := l.restart == .due

end Sys2Proof.Machine
end

