-- ==== Sys2Proof/Machine/RequestCommands.lean ====
section
/-! DEFINITION. The meanings of the request commands: each stands for a good frame of its code taken from the Station Link (R196, R197, log 21) -/

namespace Sys2Proof.Machine

open Sys2Proof

/-- The next state, with the transmitter's choice made whenever it is IDLE (R199). -/
def ran (s : State) : Host.Outcome State Fault Refusal := .next s.txChoose

/-- A good frame arrives, is queued, and is dispatched as soon as R197 lets it (log 21). A payload longer than a frame can
carry is no frame (R194, log 23). -/
def request (code : Nat) (tag : Byte) (payload : Payload) (s : State) : Host.Outcome State Fault Refusal :=
  if payload.length ≤ 248 then .next (s.offerFrame ⟨byte code, tag, payload⟩) else .fault .payloadTooLong

/-- IDENTIFY (R201). -/
def execIdentify (tag : Byte) (payload : Payload) (s : State) : Host.Outcome State Fault Refusal :=
  request 0x01 tag payload s

/-- LINK_ECHO (R202). -/
def execLinkEcho (tag : Byte) (payload : Payload) (s : State) : Host.Outcome State Fault Refusal :=
  request 0x02 tag payload s

/-- SET_MODE (R180). -/
def execSetMode (tag : Byte) (payload : Payload) (s : State) : Host.Outcome State Fault Refusal :=
  request 0x08 tag payload s

/-- GET_CELL_STATUS (R191). -/
def execGetCellStatus (tag : Byte) (payload : Payload) (s : State) : Host.Outcome State Fault Refusal :=
  request 0x09 tag payload s

/-- START_LOT (R184). -/
def execStartLot (tag : Byte) (payload : Payload) (s : State) : Host.Outcome State Fault Refusal :=
  request 0x0A tag payload s

/-- END_LOT (R185). -/
def execEndLot (tag : Byte) (payload : Payload) (s : State) : Host.Outcome State Fault Refusal :=
  request 0x0B tag payload s

/-- SET_HOLD (R186). -/
def execSetHold (tag : Byte) (payload : Payload) (s : State) : Host.Outcome State Fault Refusal :=
  request 0x0C tag payload s

/-- CLEAR_HOLD (R187). -/
def execClearHold (tag : Byte) (payload : Payload) (s : State) : Host.Outcome State Fault Refusal :=
  request 0x0D tag payload s

/-- HALT (R182). -/
def execHalt (tag : Byte) (payload : Payload) (s : State) : Host.Outcome State Fault Refusal :=
  request 0x0E tag payload s

/-- READ_CONDITIONS (R190). -/
def execReadConditions (tag : Byte) (payload : Payload) (s : State) : Host.Outcome State Fault Refusal :=
  request 0x0F tag payload s

/-- CLEAR_CONDITIONS (R190). -/
def execClearConditions (tag : Byte) (payload : Payload) (s : State) : Host.Outcome State Fault Refusal :=
  request 0x10 tag payload s

/-- SET_ALERT_ENABLES (R190). -/
def execSetAlertEnables (tag : Byte) (payload : Payload) (s : State) : Host.Outcome State Fault Refusal :=
  request 0x11 tag payload s

/-- WARM_RESTART (R192). -/
def execWarmRestart (tag : Byte) (payload : Payload) (s : State) : Host.Outcome State Fault Refusal :=
  request 0x12 tag payload s

/-- LOAD_LAYOUT (R5). -/
def execLoadLayout (tag : Byte) (payload : Payload) (s : State) : Host.Outcome State Fault Refusal :=
  request 0x14 tag payload s

/-- LOAD_WIRES (R7). -/
def execLoadWires (tag : Byte) (payload : Payload) (s : State) : Host.Outcome State Fault Refusal :=
  request 0x15 tag payload s

/-- LOAD_BOND_SET (R8). -/
def execLoadBondSet (tag : Byte) (payload : Payload) (s : State) : Host.Outcome State Fault Refusal :=
  request 0x16 tag payload s

/-- LOAD_LOOP (R9). -/
def execLoadLoop (tag : Byte) (payload : Payload) (s : State) : Host.Outcome State Fault Refusal :=
  request 0x17 tag payload s

/-- LOAD_PLAN (R10). -/
def execLoadPlan (tag : Byte) (payload : Payload) (s : State) : Host.Outcome State Fault Refusal :=
  request 0x18 tag payload s

/-- LOAD_HEAD_CONFIG (R12). -/
def execLoadHeadConfig (tag : Byte) (payload : Payload) (s : State) : Host.Outcome State Fault Refusal :=
  request 0x19 tag payload s

/-- LOAD_TRACK_CONFIG (R14). -/
def execLoadTrackConfig (tag : Byte) (payload : Payload) (s : State) : Host.Outcome State Fault Refusal :=
  request 0x1A tag payload s

/-- READ_RECIPE_ITEM (R18). -/
def execReadRecipeItem (tag : Byte) (payload : Payload) (s : State) : Host.Outcome State Fault Refusal :=
  request 0x1B tag payload s

/-- CHECK_RECIPE (R17). -/
def execCheckRecipe (tag : Byte) (payload : Payload) (s : State) : Host.Outcome State Fault Refusal :=
  request 0x1C tag payload s

/-- HEAD_STATUS (R45). -/
def execHeadStatus (tag : Byte) (payload : Payload) (s : State) : Host.Outcome State Fault Refusal :=
  request 0x20 tag payload s

/-- RESUME_HEAD (R44). -/
def execResumeHead (tag : Byte) (payload : Payload) (s : State) : Host.Outcome State Fault Refusal :=
  request 0x21 tag payload s

/-- SET_CAPILLARY_COUNT (R85). -/
def execSetCapillaryCount (tag : Byte) (payload : Payload) (s : State) : Host.Outcome State Fault Refusal :=
  request 0x22 tag payload s

/-- LOAD_SPOOL (R90). -/
def execLoadSpool (tag : Byte) (payload : Payload) (s : State) : Host.Outcome State Fault Refusal :=
  request 0x23 tag payload s

/-- STRIP_MAP (R103). -/
def execStripMap (tag : Byte) (payload : Payload) (s : State) : Host.Outcome State Fault Refusal :=
  request 0x24 tag payload s

/-- TRACK_STATUS (R116). -/
def execTrackStatus (tag : Byte) (payload : Payload) (s : State) : Host.Outcome State Fault Refusal :=
  request 0x25 tag payload s

/-- MAGAZINE_STATUS (R117). -/
def execMagazineStatus (tag : Byte) (payload : Payload) (s : State) : Host.Outcome State Fault Refusal :=
  request 0x26 tag payload s

/-- DRIVE_STATUS (R130). -/
def execDriveStatus (tag : Byte) (payload : Payload) (s : State) : Host.Outcome State Fault Refusal :=
  request 0x27 tag payload s

/-- CLASSIFY (R142). -/
def execClassify (tag : Byte) (payload : Payload) (s : State) : Host.Outcome State Fault Refusal :=
  request 0x28 tag payload s

/-- LOT_STATS (R146). -/
def execLotStats (tag : Byte) (payload : Payload) (s : State) : Host.Outcome State Fault Refusal :=
  request 0x29 tag payload s

/-- PULL_QUEUE_STATUS (R147). -/
def execPullQueueStatus (tag : Byte) (payload : Payload) (s : State) : Host.Outcome State Fault Refusal :=
  request 0x2A tag payload s

/-- SET_REGIONS (R159). -/
def execSetRegions (tag : Byte) (payload : Payload) (s : State) : Host.Outcome State Fault Refusal :=
  request 0x2C tag payload s

/-- REGION_STATUS (R158). -/
def execRegionStatus (tag : Byte) (payload : Payload) (s : State) : Host.Outcome State Fault Refusal :=
  request 0x2D tag payload s

/-- READ_RECORDS (R156). -/
def execReadRecords (tag : Byte) (payload : Payload) (s : State) : Host.Outcome State Fault Refusal :=
  request 0x2E tag payload s

/-- RELEASE_RECORDS (R157). -/
def execReleaseRecords (tag : Byte) (payload : Payload) (s : State) : Host.Outcome State Fault Refusal :=
  request 0x2F tag payload s

/-- SET_PANEL_TIMING (R163). -/
def execSetPanelTiming (tag : Byte) (payload : Payload) (s : State) : Host.Outcome State Fault Refusal :=
  request 0x30 tag payload s

/-- SHOW_SCREEN (R169). -/
def execShowScreen (tag : Byte) (payload : Payload) (s : State) : Host.Outcome State Fault Refusal :=
  request 0x32 tag payload s

/-- SHOW_PATTERN (R170). -/
def execShowPattern (tag : Byte) (payload : Payload) (s : State) : Host.Outcome State Fault Refusal :=
  request 0x33 tag payload s

/-- RAISE_PROMPT (R174). -/
def execRaisePrompt (tag : Byte) (payload : Payload) (s : State) : Host.Outcome State Fault Refusal :=
  request 0x34 tag payload s

/-- WITHDRAW_PROMPT (R174). -/
def execWithdrawPrompt (tag : Byte) (payload : Payload) (s : State) : Host.Outcome State Fault Refusal :=
  request 0x35 tag payload s

/-- PROMPT_STATUS (R175). -/
def execPromptStatus (tag : Byte) (payload : Payload) (s : State) : Host.Outcome State Fault Refusal :=
  request 0x36 tag payload s

/-- SET_TONE (R177). -/
def execSetTone (tag : Byte) (payload : Payload) (s : State) : Host.Outcome State Fault Refusal :=
  request 0x37 tag payload s

/-- UNKNOWN_CODE (R197): the code is answered as it was received. -/
def execUnknownCode (code tag : Byte) (payload : Payload) (s : State) : Host.Outcome State Fault Refusal :=
  request code.toNat tag payload s

/-- LOAD_SCREEN_BEGIN (R167): part 1. -/
def execLoadScreenBegin (tag : Byte) (rest : Payload) (s : State) : Host.Outcome State Fault Refusal :=
  request 0x31 tag (1#8 :: rest) s

/-- LOAD_SCREEN_TEXT (R167): part 2. -/
def execLoadScreenText (tag : Byte) (rest : Payload) (s : State) : Host.Outcome State Fault Refusal :=
  request 0x31 tag (2#8 :: rest) s

/-- LOAD_SCREEN_FIELDS (R167): part 3. -/
def execLoadScreenFields (tag : Byte) (rest : Payload) (s : State) : Host.Outcome State Fault Refusal :=
  request 0x31 tag (3#8 :: rest) s

/-- LOAD_SCREEN_COMMIT (R167): part 4. -/
def execLoadScreenCommit (tag : Byte) (rest : Payload) (s : State) : Host.Outcome State Fault Refusal :=
  request 0x31 tag (4#8 :: rest) s

end Sys2Proof.Machine
end

