-- ==== Sys2Proof/Machine/CellCommands.lean ====
section
/-! DEFINITION. The meanings of the resets, of the link's own commands and of the commands of the CMC. -/

namespace Sys2Proof.Machine

open Sys2Proof

/-- One millisecond of cell time (R1, log 3): the cell time is 32 bits and wraps, a STOP transfer ends (log 10), and the
transmitter, where it is IDLE, takes its next frame (R199; after a reset STARTED, log 19). -/
def State.tick (s : State) : State :=
  ((s.setCmc { s.cmc with cellTime := (s.cmc.cellTime + 1) % 4294967296 }).setDlc
    { s.dlc with line := s.dlc.line.afterStop }).txChoose

/-- POWER_ON_RESET (R193). -/
def execPowerOnReset (pins : Pins) (s : State) : Host.Outcome State Fault Refusal :=
  .next (s.powerOn pins)

/-- WARM_RESTART_RESET (R192, R203): the reset of a WARM_RESTART whose reply has been sent (log 20). -/
def execWarmRestartReset (s : State) : Host.Outcome State Fault Refusal :=
  if s.link.resetDue then .next s.warmRestart else ran s

/-- LINK_BYTE_RECEIVED (R195). -/
def execLinkByteReceived (b : Byte) (stopBit : Bool) (s : State) : Host.Outcome State Fault Refusal :=
  ran (s.receiveByte b stopBit)

/-- LINK_GAP_TIMEOUT (R195): more than 5 ms after a byte, outside HUNT. -/
def execLinkGapTimeout (s : State) : Host.Outcome State Fault Refusal :=
  ran (if s.link.rx = .hunt then s else s.framingError)

/-- FRAME_SENT (R199). -/
def execFrameSent (s : State) : Host.Outcome State Fault Refusal :=
  ran s.frameSent

/-- LOT_CLOSE (R185): the lot close test. -/
def execLotClose (s : State) : Host.Outcome State Fault Refusal :=
  ran s.lotCloseTest

/-- HALT_INPUT_ASSERTED (R182). -/
def execHaltInputAsserted (s : State) : Host.Outcome State Fault Refusal :=
  let s1 := s.setCmc { s.cmc with haltInput := true }
  ran (if s.cmc.mode = .halt then s1 else s1.enterHalt 6)

/-- HALT_INPUT_RELEASED (R183): the release changes nothing by itself. -/
def execHaltInputReleased (s : State) : Host.Outcome State Fault Refusal :=
  ran (s.setCmc { s.cmc with haltInput := false })

/-- DRAIN_COMPLETE (R115, R181): the empty track in DRAIN. -/
def execDrainComplete (s : State) : Host.Outcome State Fault Refusal :=
  ran (if s.cmc.mode = .drain ∧ s.trackEmpty then s.changeMode .setup 5 else s)

end Sys2Proof.Machine
end

