-- ==== Sys2Proof/Machine/DriveCommands.lean ====
section
/-! DEFINITION. The meanings of the Drive Line's commands (chapter 7). -/

namespace Sys2Proof.Machine

open Sys2Proof

/-- COMMAND_EXCHANGE (R122, R127): the oldest queued operation, when neither a STOP nor a poll is to be chosen. A STOP
transfer has ended by then (log 10), here as in the other choices of the arbiter. -/
def execCommandExchange (s : State) : Host.Outcome State Fault Refusal :=
  match s.dlc.line.afterStop, s.dlc.stopPending, s.dlc.lowestAttention, s.dlc.queue with
  | .free, false, none, d :: rest => ran (s.sendCommand d rest)
  | _, _, _, _ => ran s

/-- POLL (R124, R127): of the attending drive with the lowest address. -/
def execPoll (s : State) : Host.Outcome State Fault Refusal :=
  match s.dlc.line.afterStop, s.dlc.stopPending, s.dlc.lowestAttention with
  | .free, false, some d =>
    ran (s.setDlc { s.dlc with line := .poll d [], sent := commandFrame (driveAddress d) 0x70 [] })
  | _, _, _ => ran s

/-- STOP (R127, R128): the pending STOP is sent, and its transfer holds the line. -/
def execStop (s : State) : Host.Outcome State Fault Refusal :=
  if s.dlc.line.afterStop = .free ∧ s.dlc.stopPending then
    ran (s.setDlc { s.dlc with line := .stop, stopPending := false, sent := commandFrame 0 0x7F [] })
  else ran s

/-- ATTENTION_CHANGE (R124). -/
def execAttentionChange (drive : Drive) (asserted : Bool) (s : State) : Host.Outcome State Fault Refusal :=
  ran (s.setDrive drive { s.dlc.drives.get drive with attention := asserted })

/-- ANSWER_CHARACTER (R122): ignored when no exchange is open. -/
def execAnswerCharacter (char : LineChar) (s : State) : Host.Outcome State Fault Refusal :=
  match s.dlc.line with
  | .command d discard => ran (s.answer d discard char)
  | .free | .stop | .poll _ _ => ran s

/-- ANSWER_WINDOW_EXPIRY (R122). -/
def execAnswerWindowExpiry (s : State) : Host.Outcome State Fault Refusal :=
  match s.dlc.line with
  | .command d discard => ran (if discard then s.setLine .free else (s.setLine .free).noAnswer d)
  | .free | .stop | .poll _ _ => ran s

/-- STATUS_FRAME_CHARACTER (R125). -/
def execStatusFrameCharacter (char : LineChar) (s : State) : Host.Outcome State Fault Refusal :=
  match s.dlc.line with
  | .poll d chars => ran (s.statusChar d chars char)
  | .free | .stop | .command _ _ => ran s

/-- STATUS_WINDOW_EXPIRY (R125): a character is late, or none came. -/
def execStatusWindowExpiry (s : State) : Host.Outcome State Fault Refusal :=
  match s.dlc.line with
  | .poll _ _ => ran s.badStatus
  | .free | .stop | .command _ _ => ran s

/-- OPERATION_TIMEOUT (R123). -/
def execOperationTimeout (drive : Drive) (s : State) : Host.Outcome State Fault Refusal :=
  ran (if (s.dlc.drives.get drive).stage = .outstanding then s.timedOut drive else s)

end Sys2Proof.Machine
end

