-- ==== Sys2Proof/Machine/HeadCommands.lean ====
section
/-! DEFINITION. The meanings of the Head Ports' commands, of BAND_GRANT and of WIRE_START (chapters 2 to 5). -/

namespace Sys2Proof.Machine

open Sys2Proof

/-- CONTACT_EDGE (R28): ignored outside a search. -/
def execContactEdge (head : HeadId) (z : BitVec 16) (s : State) : Host.Outcome State Fault Refusal :=
  let x := s.head head
  match x.phase, x.snapshot with
  | some p, some n =>
    match p.bond with
    | some b => ran (if p.isSearch then s.contact head n b z.toNat else s)
    | none => ran s
  | _, _ => ran s

/-- CONTACT_WAIT_EXPIRY (R28): no edge within 5 ms of DONE with contact yes. -/
def execContactWaitExpiry (head : HeadId) (s : State) : Host.Outcome State Fault Refusal :=
  let x := s.head head
  match x.phase.bind Phase.bond with
  | some b => ran (if x.contactWait then s.searchFailed head b .searchMiss else s)
  | none => ran s

/-- POWER_SAMPLE (R51): discarded unless the accumulator of the bond in progress is OPEN. -/
def execPowerSample (head : HeadId) (word : Nat) (s : State) : Host.Outcome State Fault Refusal :=
  let x := s.head head
  match x.phase, x.snapshot with
  | some p, some n =>
    match p.bond with
    | some b => ran (if p.isWeld then s.setHead head (x.setCapture b ((x.capture b).sample (n.set b) word)) else s)
    | none => ran s
  | _, _ => ran s

/-- PRE_STAGE_END (R30, R50): P_eff moves from its shadow value to the output. -/
def execPreStageEnd (head : HeadId) (s : State) : Host.Outcome State Fault Refusal :=
  let x := s.head head
  match x.phase, x.snapshot with
  | some p, some n =>
    match p.bond with
    | some b => ran (if p.isWeld ∧ (n.set b).tPre < (n.set b).t then s.setHead head { x with ultrasonic := x.shadow } else s)
    | none => ran s
  | _, _ => ran s

/-- WELD_TIMER_EXPIRY (R30). -/
def execWeldTimerExpiry (head : HeadId) (z : BitVec 16) (s : State) : Host.Outcome State Fault Refusal :=
  let x := s.head head
  match x.phase, x.snapshot with
  | some p, some n =>
    match p.bond with
    | some b => ran (if p.isWeld then s.weldExpired head n b z.toNat else s)
    | none => ran s
  | _, _ => ran s

/-- CHECK_RESULT (R31): ignored outside a check. -/
def execCheckResult (head : HeadId) (attached : Bool) (s : State) : Host.Outcome State Fault Refusal :=
  let x := s.head head
  match x.phase, x.snapshot with
  | some p, some n =>
    match p.bond with
    | some b => ran (if p.isCheck then s.checkEnded head n b attached else s)
    | none => ran s
  | _, _ => ran s

/-- CHECK_TIMER_EXPIRY (R31): the result is taken as detached. -/
def execCheckTimerExpiry (head : HeadId) (s : State) : Host.Outcome State Fault Refusal :=
  let x := s.head head
  match x.phase, x.snapshot with
  | some p, some n =>
    match p.bond with
    | some b => ran (if p.isCheck then s.checkEnded head n b false else s)
    | none => ran s
  | _, _ => ran s

/-- SPARK_RESULT (R36): ignored outside SPARK. -/
def execSparkResult (head : HeadId) (ok : Bool) (s : State) : Host.Outcome State Fault Refusal :=
  match (s.head head).phase, (s.head head).snapshot with
  | some .spark, some n => ran (if ok then s.sparkSucceeded head n else s.sparkOpen head n)
  | _, _ => ran s

/-- SPARK_TIMER_EXPIRY (R36): the result is taken as open. -/
def execSparkTimerExpiry (head : HeadId) (s : State) : Host.Outcome State Fault Refusal :=
  match (s.head head).phase, (s.head head).snapshot with
  | some .spark, some n => ran (s.sparkOpen head n)
  | _, _ => ran s

/-- FEED_PULSE (R86). -/
def execFeedPulse (head : HeadId) (s : State) : Host.Outcome State Fault Refusal :=
  let x := s.head head
  let fed := if x.state = .active then min 65535 (x.wireFeed + 1) else x.wireFeed
  ran ((s.setHead head { x with spool := x.spool - 1, wireFeed := fed }).judgeSpool head)

/-- WIRE_BREAK_ASSERTED (R40): the input becomes asserted. -/
def execWireBreakAsserted (head : HeadId) (s : State) : Host.Outcome State Fault Refusal :=
  let x := s.head head
  ran (if x.wireBreak then s else (s.setHead head { x with wireBreak := true }).wireBreak head)

/-- WIRE_BREAK_RELEASED (R40): no effect on the head. -/
def execWireBreakReleased (head : HeadId) (s : State) : Host.Outcome State Fault Refusal :=
  ran (s.setHead head { s.head head with wireBreak := false })

/-- BAND_GRANT (R69, R70): the band arbiter decides. -/
def execBandGrant (s : State) : Host.Outcome State Fault Refusal :=
  ran s.decideBand

/-- WIRE_START (R23, R24, R25): a READY head whose gates 1 to 5 pass. One that waits at RECORD for room makes no further test
until an event re-tests its gates (R23, R150). -/
def execWireStart (head : HeadId) (s : State) : Host.Outcome State Fault Refusal :=
  let x := s.head head
  match x.unit with
  | some u =>
    ran
      (if x.state = .ready ∧ (s.refused (bondRegion head) = false ∨ x.gate ≠ some .record) ∧ s.headGate head = none then
        s.tryWire head u
      else s)
  | none => ran s

end Sys2Proof.Machine
end

