-- ==== Sys2Proof/Machine/PanelCommands.lean ====
section
/-! DEFINITION. The meanings of the panel's commands (chapter 10). -/

namespace Sys2Proof.Machine

open Sys2Proof

/-- FRAME_START (R164). -/
def execFrameStart (s : State) : Host.Outcome State Fault Refusal :=
  ran s.startFrame

/-- LOCK_INPUT_CHANGE (R165). -/
def execLockInputChange (locked : Bool) (s : State) : Host.Outcome State Fault Refusal :=
  let s1 := s.setPnc { s.pnc with locked := locked }
  ran (if s.pnc.locked && !locked then s1.setCondition .panelUnlocked else s1)

/-- KEYSWITCH_CHANGE (R176). -/
def execKeyswitchChange (supervisor : Bool) (s : State) : Host.Outcome State Fault Refusal :=
  ran (s.setPnc { s.pnc with supervisor := supervisor })

/-- PAGE_NEXT (R169). -/
def execPageNext (s : State) : Host.Outcome State Fault Refusal :=
  ran (s.key fun s => s.setPnc (s.pnc.showSlot s.pnc.slotAbove))

/-- PAGE_PREV (R169). -/
def execPagePrev (s : State) : Host.Outcome State Fault Refusal :=
  ran (s.key fun s => s.setPnc (s.pnc.showSlot s.pnc.slotBelow))

/-- PULL_KEY (R169). -/
def execPullKey (s : State) : Host.Outcome State Fault Refusal :=
  ran (s.key fun s => s.setPnc { s.pnc with selection := .view .classify })

/-- ACK (R173). -/
def execAck (s : State) : Host.Outcome State Fault Refusal :=
  ran (s.key State.pressAck)

/-- SILENCE (R177). -/
def execSilence (s : State) : Host.Outcome State Fault Refusal :=
  ran (s.key State.silence)

/-- F_KEY (R176): key 0 stands for F1. -/
def execFKey (key : Fin 5) (s : State) : Host.Outcome State Fault Refusal :=
  ran (s.key fun s => s.pressF (key.val + 1))

/-- CHIRP_TIMER_EXPIRY (R177). -/
def execChirpTimerExpiry (s : State) : Host.Outcome State Fault Refusal :=
  ran (s.setPnc { s.pnc with chirp := false }.refreshTone)

/-- TONE_TOGGLE (R177): the half-period timer expires; the next half-period uses h as it stands. -/
def execToneToggle (s : State) : Host.Outcome State Fault Refusal :=
  ran
    (match s.pnc.toneTimer with
      | some _ => s.setPnc { s.pnc with toneHigh := !s.pnc.toneHigh, toneTimer := some s.pnc.h }
      | none => s)

end Sys2Proof.Machine
end

