-- ==== Sys2Proof/Machine/TrackCommands.lean ====
section
/-! DEFINITION. The meanings of the track's and the pull station's own steps (chapters 6 and 8). -/

namespace Sys2Proof.Machine

open Sys2Proof

/-- FEED (R100): gates 1 to 6 pass and the TRC does not wait for room. -/
def execFeed (s : State) : Host.Outcome State Fault Refusal :=
  match s.trc.inMag.lowestLoaded with
  | some k =>
    ran (if s.firstFeedGate = none ∧ s.refused .strip = false ∧ s.trc.inOp = none then s.tryFeed k else s)
  | none => ran s

/-- TRACK_SEQUENCE_START (R108), or the reclamp of R109. -/
def execTrackSequenceStart (s : State) : Host.Outcome State Fault Refusal :=
  ran
    (if s.sequenceReady then s.startSequence s.trc.firstStep
     else if s.reclampDue then s.startSequence .clamp
     else s)

/-- STORE (R113): the store of the strip at EXIT, or the prompt for an output magazine. -/
def execStore (s : State) : Host.Outcome State Fault Refusal :=
  let m := s.trc.outMag
  if s.working ∧ s.occupied .exit ∧ s.trc.store = none ∧ s.trc.stopOutput = false ∧ m.state = .ready then
    match m.lowestEmpty with
    | some k => ran ((s.setTrc { s.trc with store := some (m.number, k) }).handOver .outElevator (.store k))
    | none => ran s
  else
    ran
      (if s.working ∧ s.trc.stopOutput = false ∧ s.pnc.findPrompt .outputChange 0 = none then s.outputPromptTest
       else s)

/-- PULL_START (R134, R135): gates 1 and 2 pass and the station does not wait for room. -/
def execPullStart (s : State) : Host.Outcome State Fault Refusal :=
  match s.nextEntry with
  | some e =>
    ran
      (if s.psc.state = .waiting ∧ s.working ∧ s.psc.queue.length < Config.classifyQueueSize ∧
          s.refused .pull = false then
        s.tryPull e
      else s)
  | none => ran s

/-- PREHEAT_DWELL_EXPIRY (R107). -/
def execPreheatDwellExpiry (s : State) : Host.Outcome State Fault Refusal :=
  ran
    (match s.trc.dwell with
      | .running _ => s.setTrc { s.trc with dwell := .done }
      | .none | .done => s)

end Sys2Proof.Machine
end

