-- ==== Sys2Proof/Machine/Dispatch.lean ====
section
/-! DEFINITION. exec: one arm per command, each one call of that command's meaning. -/

namespace Sys2Proof.Machine

open Sys2Proof

/-- What a command does to everything but the queue. -/
def exec (i : Instr) (s : State) : Host.Outcome State Fault Refusal :=
  match i with
  | .powerOnReset pins => Sys2Proof.Machine.execPowerOnReset pins s
  | .warmRestartReset => Sys2Proof.Machine.execWarmRestartReset s
  | .linkByteReceived byte stopBit => Sys2Proof.Machine.execLinkByteReceived byte stopBit s
  | .linkGapTimeout => Sys2Proof.Machine.execLinkGapTimeout s
  | .frameSent => Sys2Proof.Machine.execFrameSent s
  | .unknownCode code tag payload => Sys2Proof.Machine.execUnknownCode code tag payload s
  | .identify tag payload => Sys2Proof.Machine.execIdentify tag payload s
  | .linkEcho tag payload => Sys2Proof.Machine.execLinkEcho tag payload s
  | .setMode tag payload => Sys2Proof.Machine.execSetMode tag payload s
  | .getCellStatus tag payload => Sys2Proof.Machine.execGetCellStatus tag payload s
  | .startLot tag payload => Sys2Proof.Machine.execStartLot tag payload s
  | .endLot tag payload => Sys2Proof.Machine.execEndLot tag payload s
  | .lotClose => Sys2Proof.Machine.execLotClose s
  | .setHold tag payload => Sys2Proof.Machine.execSetHold tag payload s
  | .clearHold tag payload => Sys2Proof.Machine.execClearHold tag payload s
  | .halt tag payload => Sys2Proof.Machine.execHalt tag payload s
  | .haltInputAsserted => Sys2Proof.Machine.execHaltInputAsserted s
  | .haltInputReleased => Sys2Proof.Machine.execHaltInputReleased s
  | .readConditions tag payload => Sys2Proof.Machine.execReadConditions tag payload s
  | .clearConditions tag payload => Sys2Proof.Machine.execClearConditions tag payload s
  | .setAlertEnables tag payload => Sys2Proof.Machine.execSetAlertEnables tag payload s
  | .warmRestart tag payload => Sys2Proof.Machine.execWarmRestart tag payload s
  | .loadLayout tag payload => Sys2Proof.Machine.execLoadLayout tag payload s
  | .loadWires tag payload => Sys2Proof.Machine.execLoadWires tag payload s
  | .loadBondSet tag payload => Sys2Proof.Machine.execLoadBondSet tag payload s
  | .loadLoop tag payload => Sys2Proof.Machine.execLoadLoop tag payload s
  | .loadPlan tag payload => Sys2Proof.Machine.execLoadPlan tag payload s
  | .loadHeadConfig tag payload => Sys2Proof.Machine.execLoadHeadConfig tag payload s
  | .loadTrackConfig tag payload => Sys2Proof.Machine.execLoadTrackConfig tag payload s
  | .readRecipeItem tag payload => Sys2Proof.Machine.execReadRecipeItem tag payload s
  | .checkRecipe tag payload => Sys2Proof.Machine.execCheckRecipe tag payload s
  | .headStatus tag payload => Sys2Proof.Machine.execHeadStatus tag payload s
  | .resumeHead tag payload => Sys2Proof.Machine.execResumeHead tag payload s
  | .setCapillaryCount tag payload => Sys2Proof.Machine.execSetCapillaryCount tag payload s
  | .loadSpool tag payload => Sys2Proof.Machine.execLoadSpool tag payload s
  | .stripMap tag payload => Sys2Proof.Machine.execStripMap tag payload s
  | .trackStatus tag payload => Sys2Proof.Machine.execTrackStatus tag payload s
  | .magazineStatus tag payload => Sys2Proof.Machine.execMagazineStatus tag payload s
  | .driveStatus tag payload => Sys2Proof.Machine.execDriveStatus tag payload s
  | .classify tag payload => Sys2Proof.Machine.execClassify tag payload s
  | .lotStats tag payload => Sys2Proof.Machine.execLotStats tag payload s
  | .pullQueueStatus tag payload => Sys2Proof.Machine.execPullQueueStatus tag payload s
  | .setRegions tag payload => Sys2Proof.Machine.execSetRegions tag payload s
  | .regionStatus tag payload => Sys2Proof.Machine.execRegionStatus tag payload s
  | .readRecords tag payload => Sys2Proof.Machine.execReadRecords tag payload s
  | .releaseRecords tag payload => Sys2Proof.Machine.execReleaseRecords tag payload s
  | .setPanelTiming tag payload => Sys2Proof.Machine.execSetPanelTiming tag payload s
  | .loadScreenBegin tag rest => Sys2Proof.Machine.execLoadScreenBegin tag rest s
  | .loadScreenText tag rest => Sys2Proof.Machine.execLoadScreenText tag rest s
  | .loadScreenFields tag rest => Sys2Proof.Machine.execLoadScreenFields tag rest s
  | .loadScreenCommit tag rest => Sys2Proof.Machine.execLoadScreenCommit tag rest s
  | .showScreen tag payload => Sys2Proof.Machine.execShowScreen tag payload s
  | .showPattern tag payload => Sys2Proof.Machine.execShowPattern tag payload s
  | .raisePrompt tag payload => Sys2Proof.Machine.execRaisePrompt tag payload s
  | .withdrawPrompt tag payload => Sys2Proof.Machine.execWithdrawPrompt tag payload s
  | .promptStatus tag payload => Sys2Proof.Machine.execPromptStatus tag payload s
  | .setTone tag payload => Sys2Proof.Machine.execSetTone tag payload s
  | .frameStart => Sys2Proof.Machine.execFrameStart s
  | .lockInputChange locked => Sys2Proof.Machine.execLockInputChange locked s
  | .keyswitchChange supervisor => Sys2Proof.Machine.execKeyswitchChange supervisor s
  | .pageNext => Sys2Proof.Machine.execPageNext s
  | .pagePrev => Sys2Proof.Machine.execPagePrev s
  | .pullKey => Sys2Proof.Machine.execPullKey s
  | .ack => Sys2Proof.Machine.execAck s
  | .silence => Sys2Proof.Machine.execSilence s
  | .fKey key => Sys2Proof.Machine.execFKey key s
  | .chirpTimerExpiry => Sys2Proof.Machine.execChirpTimerExpiry s
  | .toneToggle => Sys2Proof.Machine.execToneToggle s
  | .contactEdge head z => Sys2Proof.Machine.execContactEdge head z s
  | .contactWaitExpiry head => Sys2Proof.Machine.execContactWaitExpiry head s
  | .powerSample head word => Sys2Proof.Machine.execPowerSample head word s
  | .preStageEnd head => Sys2Proof.Machine.execPreStageEnd head s
  | .weldTimerExpiry head z => Sys2Proof.Machine.execWeldTimerExpiry head z s
  | .checkResult head attached => Sys2Proof.Machine.execCheckResult head attached s
  | .checkTimerExpiry head => Sys2Proof.Machine.execCheckTimerExpiry head s
  | .sparkResult head ok => Sys2Proof.Machine.execSparkResult head ok s
  | .sparkTimerExpiry head => Sys2Proof.Machine.execSparkTimerExpiry head s
  | .feedPulse head => Sys2Proof.Machine.execFeedPulse head s
  | .wireBreakAsserted head => Sys2Proof.Machine.execWireBreakAsserted head s
  | .wireBreakReleased head => Sys2Proof.Machine.execWireBreakReleased head s
  | .bandGrant => Sys2Proof.Machine.execBandGrant s
  | .wireStart head => Sys2Proof.Machine.execWireStart head s
  | .feed => Sys2Proof.Machine.execFeed s
  | .trackSequenceStart => Sys2Proof.Machine.execTrackSequenceStart s
  | .store => Sys2Proof.Machine.execStore s
  | .pullStart => Sys2Proof.Machine.execPullStart s
  | .drainComplete => Sys2Proof.Machine.execDrainComplete s
  | .preheatDwellExpiry => Sys2Proof.Machine.execPreheatDwellExpiry s
  | .commandExchange => Sys2Proof.Machine.execCommandExchange s
  | .poll => Sys2Proof.Machine.execPoll s
  | .stop => Sys2Proof.Machine.execStop s
  | .attentionChange drive asserted => Sys2Proof.Machine.execAttentionChange drive asserted s
  | .answerCharacter char => Sys2Proof.Machine.execAnswerCharacter char s
  | .answerWindowExpiry => Sys2Proof.Machine.execAnswerWindowExpiry s
  | .statusFrameCharacter char => Sys2Proof.Machine.execStatusFrameCharacter char s
  | .statusWindowExpiry => Sys2Proof.Machine.execStatusWindowExpiry s
  | .operationTimeout drive => Sys2Proof.Machine.execOperationTimeout drive s

end Sys2Proof.Machine
end

