-- ==== Sys2Proof/WellFormed.lean ====
section
/-! DEFINITION. Which commands can exist: a frame carries 0 to 248 payload bytes (R194), and an UNKNOWN_CODE frame names no
request of the code table (R200). -/

namespace Sys2Proof

/-- The request codes of the code table (R200). -/
def requestCodes : List Nat :=
  [0x01, 0x02, 0x08, 0x09, 0x0A, 0x0B, 0x0C, 0x0D, 0x0E, 0x0F, 0x10, 0x11, 0x12, 0x14, 0x15, 0x16, 0x17, 0x18, 0x19, 0x1A,
   0x1B, 0x1C, 0x20, 0x21, 0x22, 0x23, 0x24, 0x25, 0x26, 0x27, 0x28, 0x29, 0x2A, 0x2C, 0x2D, 0x2E, 0x2F, 0x30, 0x31, 0x32,
   0x33, 0x34, 0x35, 0x36, 0x37]

/-- The payload a command's frame carries, if the command is a frame (R194, R167). -/
def Instr.framePayload : Instr → Option Payload
  | .unknownCode _ _ p => some p
  | .identify _ p => some p
  | .linkEcho _ p => some p
  | .setMode _ p => some p
  | .getCellStatus _ p => some p
  | .startLot _ p => some p
  | .endLot _ p => some p
  | .setHold _ p => some p
  | .clearHold _ p => some p
  | .halt _ p => some p
  | .readConditions _ p => some p
  | .clearConditions _ p => some p
  | .setAlertEnables _ p => some p
  | .warmRestart _ p => some p
  | .loadLayout _ p => some p
  | .loadWires _ p => some p
  | .loadBondSet _ p => some p
  | .loadLoop _ p => some p
  | .loadPlan _ p => some p
  | .loadHeadConfig _ p => some p
  | .loadTrackConfig _ p => some p
  | .readRecipeItem _ p => some p
  | .checkRecipe _ p => some p
  | .headStatus _ p => some p
  | .resumeHead _ p => some p
  | .setCapillaryCount _ p => some p
  | .loadSpool _ p => some p
  | .stripMap _ p => some p
  | .trackStatus _ p => some p
  | .magazineStatus _ p => some p
  | .driveStatus _ p => some p
  | .classify _ p => some p
  | .lotStats _ p => some p
  | .pullQueueStatus _ p => some p
  | .setRegions _ p => some p
  | .regionStatus _ p => some p
  | .readRecords _ p => some p
  | .releaseRecords _ p => some p
  | .setPanelTiming _ p => some p
  | .showScreen _ p => some p
  | .showPattern _ p => some p
  | .raisePrompt _ p => some p
  | .withdrawPrompt _ p => some p
  | .promptStatus _ p => some p
  | .setTone _ p => some p
  | .loadScreenBegin _ p => some (1#8 :: p)
  | .loadScreenText _ p => some (2#8 :: p)
  | .loadScreenFields _ p => some (3#8 :: p)
  | .loadScreenCommit _ p => some (4#8 :: p)
  | .powerOnReset _ => none
  | .warmRestartReset => none
  | .linkByteReceived _ _ => none
  | .linkGapTimeout => none
  | .frameSent => none
  | .lotClose => none
  | .haltInputAsserted => none
  | .haltInputReleased => none
  | .frameStart => none
  | .lockInputChange _ => none
  | .keyswitchChange _ => none
  | .pageNext => none
  | .pagePrev => none
  | .pullKey => none
  | .ack => none
  | .silence => none
  | .fKey _ => none
  | .chirpTimerExpiry => none
  | .toneToggle => none
  | .contactEdge _ _ => none
  | .contactWaitExpiry _ => none
  | .powerSample _ _ => none
  | .preStageEnd _ => none
  | .weldTimerExpiry _ _ => none
  | .checkResult _ _ => none
  | .checkTimerExpiry _ => none
  | .sparkResult _ _ => none
  | .sparkTimerExpiry _ => none
  | .feedPulse _ => none
  | .wireBreakAsserted _ => none
  | .wireBreakReleased _ => none
  | .bandGrant => none
  | .wireStart _ => none
  | .feed => none
  | .trackSequenceStart => none
  | .store => none
  | .pullStart => none
  | .drainComplete => none
  | .preheatDwellExpiry => none
  | .commandExchange => none
  | .poll => none
  | .stop => none
  | .attentionChange _ _ => none
  | .answerCharacter _ => none
  | .answerWindowExpiry => none
  | .statusFrameCharacter _ => none
  | .statusWindowExpiry => none
  | .operationTimeout _ => none

/-- A command that a frame, a signal or a timer can bring about. -/
def Instr.wellFormed (c : Instr) : Bool :=
  (match c.framePayload with
    | some p => decide (p.length ≤ 248)
    | none => true) &&
  (match c with
    | .unknownCode code _ _ => !requestCodes.contains code.toNat
    | _ => true)

end Sys2Proof
end

