-- ==== Sys2Proof/Safety.lean ====
section
/-! DEFINITION. What the spec says holds of the part at all times, what a safe step is, and the terms the statements are written
in: a link that is free for a request, a request's reply, a run of commands. -/

namespace Sys2Proof.Machine

open Sys2Proof

/-- The cell is never in RUN while the quality hold is set (R186). -/
def State.holdRule (s : State) : Bool := s.cmc.hold.isNone || s.cmc.mode != .run

/-- The cell is in HALT whenever the HALT input is asserted (R182, R193). -/
def State.haltRule (s : State) : Bool := !s.cmc.haltInput || s.cmc.mode == .halt

/-- The link's queues hold no more than their room (R196, R199). -/
def State.queueRule (s : State) : Bool :=
  decide (s.link.rxQueue.length ≤ Config.rxQueueSize) && decide (s.link.notices.length ≤ Config.noticeQueueSize)

/-- The ranges of a layout's fields (R5). -/
def Layout.InRange (l : Layout) : Prop :=
  (1 ≤ l.rows ∧ l.rows ≤ 8) ∧ (1 ≤ l.cols ∧ l.cols ≤ 24) ∧ (100 ≤ l.px ∧ l.px ≤ 100000) ∧
    (100 ≤ l.py ∧ l.py ≤ 100000) ∧ (-2000000000 ≤ l.ox ∧ l.ox ≤ 2000000000) ∧
    (-2000000000 ≤ l.oy ∧ l.oy ≤ 2000000000) ∧ (1 ≤ l.wires ∧ l.wires ≤ 512) ∧ l.a ≤ l.cols ∧ 1 ≤ l.b ∧
    l.b ≤ l.cols + 1 ∧ l.a < l.b

/-- A loaded layout is one that LOAD_LAYOUT takes (R5). -/
def State.layoutRule (s : State) : Prop := s.rs.layout.loaded = true → s.rs.layout.item.InRange

/-- A step that goes on. -/
def runs (s : State) : Bool :=
  match step s with
  | .next _ => true
  | .fault _ => false
  | .refused _ => false

/-- A request can be dispatched at once: no frame waits, the reply slot is empty and no warm restart is on its way (R197). -/
structure Link.Free (l : Link) : Prop where
  rxQueue : l.rxQueue = []
  reply : l.reply = none
  restart : l.restart = .no

/-- The state with a reply in the slot, the transmitter choosing whenever it is IDLE (R197, R199). -/
def State.answered (s : State) (f : Frame) : State := (s.setLink { s.link with reply := some f }).txChoose

/-- The reply stands in the slot or is being sent. -/
def State.Answers (s : State) (f : Frame) : Prop := s.link.reply = some f ∨ s.link.tx = some (.reply f)

/-- The characters of a status frame before its checksum (R121). -/
def statusHead (kind op : Byte) (results : List Byte) : List Byte := kind :: op :: byte results.length :: results

/-- The command that gives the DLC the last character of a status frame: the checksum that makes its sum zero (R121). -/
def statusEnd (kind op : Byte) (results : List Byte) : Instr :=
  .statusFrameCharacter ((0 - byteSum (statusHead kind op results) : Byte).setWidth 9)

/-- A drive carries out an operation: it was accepted and has not ended (R119, R123). -/
def State.Outstanding (s : State) (d : Drive) (op : DriveOp) : Prop :=
  (s.dlc.drives.get d).stage = .outstanding ∧ (s.dlc.drives.get d).op = some op

/-- An operation stands queued at a drive, last in the queue (R119). -/
def State.Queued (s : State) (d : Drive) (op : DriveOp) : Prop :=
  s.dlc.queue.getLast? = some d ∧ (s.dlc.drives.get d).stage = .queued ∧ (s.dlc.drives.get d).op = some op

/-- The PENDING unit that a head takes first of a strip's columns first to last: A from the lowest column, B from the highest,
rows ascending within a column (R66, R68). -/
def StripRecord.TakesFirst (r : StripRecord) (h : HeadId) (rows first last row col : Nat) : Prop :=
  first ≤ col ∧ col ≤ last ∧ 1 ≤ row ∧ row ≤ rows ∧ r.unitAt row col = .pending ∧
    ∀ row' col', first ≤ col' → col' ≤ last → 1 ≤ row' → row' ≤ rows → r.unitAt row' col' = .pending →
      (match h with | .a => col < col' | .b => col' < col) ∨ col' = col ∧ row ≤ row'

/-- No unit of a strip's columns first to last is PENDING. -/
def StripRecord.NonePending (r : StripRecord) (rows first last : Nat) : Prop :=
  ∀ row col, first ≤ col → col ≤ last → 1 ≤ row → row ≤ rows → r.unitAt row col ≠ .pending

/-- The cell a field shows at a place of its box, counted from 0 (R168): DEC right-aligned without leading zeros, STATE
left-aligned, BAR from the left; the box filled with '*' when DEC or STATE does not fit. -/
def fieldCellAt (f : ScreenField) (value : Nat) (name : List Char) (scale k : Nat) : DisplayCell :=
  match f.format with
  | 1 =>
    if 10 ^ f.width ≤ value then .char 0x2A
    else if k + 1 = f.width ∨ 10 ^ (f.width - 1 - k) ≤ value then
      .char (byte (0x30 + value / 10 ^ (f.width - 1 - k) % 10))
    else .char 0x20
  | 2 => .char (if f.width < name.length then 0x2A else (name[k]?).elim 0x20 fun c => byte c.toNat)
  | _ => if 0 < scale ∧ k < value * f.width / scale then .block else .char 0x20

/-- Commands taken one after the other, stopping at the first fault or refusal. -/
def execAll : List Instr → State → Host.Outcome State Fault Refusal
  | [], s => .next s
  | c :: cs, s =>
    match exec c s with
    | .next t => execAll cs t
    | .fault r => .fault r
    | .refused r => .refused r

end Sys2Proof.Machine

namespace Sys2Proof

/-- The frame a request command stands for (R194, R200). -/
def Instr.frame : Instr → Option Machine.Frame
  | .unknownCode code tag p => some ⟨code, tag, p⟩
  | .identify tag p => some ⟨0x01#8, tag, p⟩
  | .linkEcho tag p => some ⟨0x02#8, tag, p⟩
  | .setMode tag p => some ⟨0x08#8, tag, p⟩
  | .getCellStatus tag p => some ⟨0x09#8, tag, p⟩
  | .startLot tag p => some ⟨0x0A#8, tag, p⟩
  | .endLot tag p => some ⟨0x0B#8, tag, p⟩
  | .setHold tag p => some ⟨0x0C#8, tag, p⟩
  | .clearHold tag p => some ⟨0x0D#8, tag, p⟩
  | .halt tag p => some ⟨0x0E#8, tag, p⟩
  | .readConditions tag p => some ⟨0x0F#8, tag, p⟩
  | .clearConditions tag p => some ⟨0x10#8, tag, p⟩
  | .setAlertEnables tag p => some ⟨0x11#8, tag, p⟩
  | .warmRestart tag p => some ⟨0x12#8, tag, p⟩
  | .loadLayout tag p => some ⟨0x14#8, tag, p⟩
  | .loadWires tag p => some ⟨0x15#8, tag, p⟩
  | .loadBondSet tag p => some ⟨0x16#8, tag, p⟩
  | .loadLoop tag p => some ⟨0x17#8, tag, p⟩
  | .loadPlan tag p => some ⟨0x18#8, tag, p⟩
  | .loadHeadConfig tag p => some ⟨0x19#8, tag, p⟩
  | .loadTrackConfig tag p => some ⟨0x1A#8, tag, p⟩
  | .readRecipeItem tag p => some ⟨0x1B#8, tag, p⟩
  | .checkRecipe tag p => some ⟨0x1C#8, tag, p⟩
  | .headStatus tag p => some ⟨0x20#8, tag, p⟩
  | .resumeHead tag p => some ⟨0x21#8, tag, p⟩
  | .setCapillaryCount tag p => some ⟨0x22#8, tag, p⟩
  | .loadSpool tag p => some ⟨0x23#8, tag, p⟩
  | .stripMap tag p => some ⟨0x24#8, tag, p⟩
  | .trackStatus tag p => some ⟨0x25#8, tag, p⟩
  | .magazineStatus tag p => some ⟨0x26#8, tag, p⟩
  | .driveStatus tag p => some ⟨0x27#8, tag, p⟩
  | .classify tag p => some ⟨0x28#8, tag, p⟩
  | .lotStats tag p => some ⟨0x29#8, tag, p⟩
  | .pullQueueStatus tag p => some ⟨0x2A#8, tag, p⟩
  | .setRegions tag p => some ⟨0x2C#8, tag, p⟩
  | .regionStatus tag p => some ⟨0x2D#8, tag, p⟩
  | .readRecords tag p => some ⟨0x2E#8, tag, p⟩
  | .releaseRecords tag p => some ⟨0x2F#8, tag, p⟩
  | .setPanelTiming tag p => some ⟨0x30#8, tag, p⟩
  | .loadScreenBegin tag p => some ⟨0x31#8, tag, 1#8 :: p⟩
  | .loadScreenText tag p => some ⟨0x31#8, tag, 2#8 :: p⟩
  | .loadScreenFields tag p => some ⟨0x31#8, tag, 3#8 :: p⟩
  | .loadScreenCommit tag p => some ⟨0x31#8, tag, 4#8 :: p⟩
  | .showScreen tag p => some ⟨0x32#8, tag, p⟩
  | .showPattern tag p => some ⟨0x33#8, tag, p⟩
  | .raisePrompt tag p => some ⟨0x34#8, tag, p⟩
  | .withdrawPrompt tag p => some ⟨0x35#8, tag, p⟩
  | .promptStatus tag p => some ⟨0x36#8, tag, p⟩
  | .setTone tag p => some ⟨0x37#8, tag, p⟩
  | .powerOnReset _ => none
  | .warmRestartReset => none
  | .linkByteReceived _ _ => none
  | .linkGapTimeout => none
  | .frameSent => none
  | .lotClose => none
  | .haltInputAsserted => none
  | .haltInputReleased => none
  | .frameStart => none
  | .lockInputChange _ => none
  | .keyswitchChange _ => none
  | .pageNext => none
  | .pagePrev => none
  | .pullKey => none
  | .ack => none
  | .silence => none
  | .fKey _ => none
  | .chirpTimerExpiry => none
  | .toneToggle => none
  | .contactEdge _ _ => none
  | .contactWaitExpiry _ => none
  | .powerSample _ _ => none
  | .preStageEnd _ => none
  | .weldTimerExpiry _ _ => none
  | .checkResult _ _ => none
  | .checkTimerExpiry _ => none
  | .sparkResult _ _ => none
  | .sparkTimerExpiry _ => none
  | .feedPulse _ => none
  | .wireBreakAsserted _ => none
  | .wireBreakReleased _ => none
  | .bandGrant => none
  | .wireStart _ => none
  | .feed => none
  | .trackSequenceStart => none
  | .store => none
  | .pullStart => none
  | .drainComplete => none
  | .preheatDwellExpiry => none
  | .commandExchange => none
  | .poll => none
  | .stop => none
  | .attentionChange _ _ => none
  | .answerCharacter _ => none
  | .answerWindowExpiry => none
  | .statusFrameCharacter _ => none
  | .statusWindowExpiry => none
  | .operationTimeout _ => none

end Sys2Proof
end

