-- ==== Sys2Proof/Certificates/Slice0/Obligations.lean ====
section
/-! DEFINITION. The statements for the provers. -/

open Sys2Proof Sys2Proof.Machine

/-! ## The queue of commands, time and the resets -/

/-- A step takes the front command and runs exec on the state with the queue's rest (the row's form, log 2); with no
command waiting it is one millisecond of cell time, 32 bits that wrap, by whose end a STOP has left the line and an IDLE
transmitter with something to send has taken it (R1, R127, R199; the tick and the end of the STOP transfer at it are the
model's choice, logs 3 and 10). -/
def Obligations.StepRunsTheFrontCommand : Prop :=
  (∀ (c : Instr) (rest : List Instr) (s : State),
    step { s with pending := c :: rest } = exec c { s with pending := rest }) ∧
  ∀ s : State, s.pending = [] →
    step s =
      .next
        ({ s with
          cmc := { s.cmc with cellTime := (s.cmc.cellTime + 1) % 2 ^ 32 }
          dlc := { s.dlc with line := if s.dlc.line = .stop then .free else s.dlc.line } } : State).txChoose

/-- Power-on with every input released and the display unlocked is State.reset with the commands still waiting (R193; the
levels are the model's choice, log 5), and State.reset meets the rules every step keeps. -/
def Obligations.ResetIsCleanPowerOn : Prop :=
  (∀ s : State,
    exec
        (.powerOnReset
          { fastLink := false, haltAsserted := false, locked := false, supervisor := false, wireBreakA := false,
            wireBreakB := false, attention := 0 }) s =
      .next { State.reset with pending := s.pending }) ∧
  State.reset.holdRule = true ∧ State.reset.haltRule = true ∧ State.reset.queueRule = true ∧ State.reset.layoutRule

/-- Power-on reset, whatever the inputs (R20, R46, R79, R118, R131, R148, R162, R178, R193, R203): every block is at its
power-on values and the inputs are sampled. A head starts IDLE, or suspended where its wire is broken; a pending STOP is
the DLC's first transmission; the five regions hold nothing in their power-on blocks but the events of HALT and of
suspended heads; TRACK_CHECK is raised and STARTED is the first notice; HALT is entered with cause 6 when its input is
asserted. The slot counts of magazines never presented are the model's choice and not stated (log 6). -/
def Obligations.PowerOnClearsEverything : Prop :=
  ∀ (pins : Pins) (s : State), ∃ t : State, exec (.powerOnReset pins) s = .next t ∧
    t.rs = RecipeStore.powerOn ∧ t.stu = Stu.powerOn ∧
    t.cmc.mode = (if pins.haltAsserted then .halt else .setup) ∧
    t.cmc.cause = (if pins.haltAsserted then 6 else 0) ∧
    t.cmc.haltInput = pins.haltAsserted ∧ t.cmc.lot = .none ∧ t.cmc.lotId = 0 ∧ t.cmc.hold = none ∧
    t.cmc.trackCheck = false ∧ t.cmc.enables = 0 ∧ t.cmc.cellTime = 0 ∧
    t.cmc.conditions.getLsbD 0 = true ∧ t.cmc.conditions.getLsbD 18 = true ∧
    (∀ h : HeadId,
      (t.head h).nCap = 0 ∧ (t.head h).spool = 500 * 100000 ∧ (t.head h).restartSpark = true ∧
        (t.head h).unit = none ∧ (t.head h).wantsBand = false ∧ (t.head h).snapshot = none ∧ (t.head h).phase = none ∧
        (t.head h).failCount = 0 ∧ (t.head h).posOp = none ∧ (t.head h).heldOp = none ∧ (t.head h).force = 0 ∧
        (t.head h).ultrasonic = 0 ∧ (t.head h).checkRequest = false ∧ (t.head h).sparkRequest = false ∧
        (t.head h).wireBreak = (match h with | .a => pins.wireBreakA | .b => pins.wireBreakB) ∧
        (t.head h).state = (if (t.head h).wireBreak then .suspended else .idle) ∧
        (t.head h).reason = (if (t.head h).wireBreak then some .wireBreak else none) ∧
        (t.pnc.findPrompt .headStop (headNo h)).isSome = (t.head h).wireBreak) ∧
    t.trc.clamp = .unknown ∧ t.trc.seq = .idle ∧ t.trc.seqStopped = false ∧ t.trc.stopInput = false ∧
    t.trc.stopSequence = false ∧ t.trc.stopOutput = false ∧ t.trc.driveStopRaised = false ∧
    t.trc.inMag.state = .absent ∧ t.trc.inMag.number = 0 ∧ t.trc.inMag.slots = Vector.replicate 64 .unknown ∧
    t.trc.outMag.state = .absent ∧ t.trc.outMag.number = 0 ∧ t.trc.outMag.slots = Vector.replicate 64 .unknown ∧
    t.trc.rescanWanted = false ∧ t.trc.push = none ∧ t.trc.store = none ∧ t.trc.maps = [] ∧ t.trc.dwell = .none ∧
    t.trc.handedOver = false ∧ t.trc.pullsDone = false ∧ t.trc.heat = .unknown ∧ t.trc.lastTemp = 0 ∧
    t.dlc.queue = [] ∧ t.dlc.line = .free ∧ t.dlc.stopPending = true ∧
    (∀ d : Drive,
      t.dlc.drives.get d =
        { stage := .none, op := none, acceptAt := 0, timeout := 0, lastFault := ⟨.none, 0, 0⟩,
          attention := pins.attention.getLsbD (driveAddress d - 1) }) ∧
    t.psc.state = .idle ∧ t.psc.strip = none ∧ t.psc.flight = none ∧ t.psc.queue = [] ∧ t.psc.counter = 0 ∧
    t.psc.stats = PullStats.zero ∧
    t.rm.bondA = .empty 0 19 0 ∧ t.rm.bondB = .empty 20 39 0 ∧ t.rm.pull = .empty 40 47 0 ∧
    t.rm.strip = .empty 48 55 0 ∧ t.rm.event.first = 56 ∧ t.rm.event.last = 63 ∧ t.rm.event.watermark = 0 ∧
    t.rm.event.reserved = 0 ∧ t.rm.event.lost = 0 ∧
    (pins.haltAsserted = false → pins.wireBreakA = false → pins.wireBreakB = false → t.rm.event = .empty 56 63 0) ∧
    t.pnc.locked = pins.locked ∧ t.pnc.supervisor = pins.supervisor ∧ t.pnc.timing = Timing.powerOn ∧
    t.pnc.pendingTiming = none ∧ t.pnc.slots = Vector.replicate 8 none ∧ t.pnc.build = none ∧
    t.pnc.selection = .view (.slot 0) ∧ t.pnc.lastSlot = 0 ∧ t.pnc.latched = none ∧ t.pnc.h = 250 ∧
    (t.pnc.findPrompt .trackCheck 0).isSome = true ∧
    (t.pnc.findPrompt .haltActive 0).isSome = pins.haltAsserted ∧
    t.link.fast = pins.fastLink ∧ t.link.rx = .hunt ∧ t.link.rxQueue = [] ∧ t.link.reply = none ∧ t.link.tx = none ∧
    t.link.notices.head? = some (.started false pins.fastLink) ∧ t.pending = s.pending

/-- The reset of a warm restart, once its reply has been sent whole (R20, R46, R79, R118, R148, R162, R178, R192, R193,
R203), keeps what R192 keeps: the recipe, the consumables, the committed records with their regions' bounds, watermarks
and serials, the lot, the track-check flag, the magazine numbers and the strip maps, the counter of strips fed, the pull
counter and statistics, and the panel's timing, templates and tone; everything the track, the drives and the link held is
gone. -/
def Obligations.WarmRestartKeepsTheRecipeAndTheLot : Prop :=
  ∀ s : State, s.link.restart = .due → ∃ t : State, exec .warmRestartReset s = .next t ∧
    t.rs = s.rs ∧ t.cmc.lot = s.cmc.lot ∧ t.cmc.lotId = s.cmc.lotId ∧ t.cmc.trackCheck = s.cmc.trackCheck ∧
    t.cmc.hold = none ∧ t.cmc.enables = 0 ∧ t.cmc.cellTime = 0 ∧ t.cmc.haltInput = s.cmc.haltInput ∧
    t.cmc.mode = (if s.cmc.haltInput then .halt else .setup) ∧
    t.cmc.conditions.getLsbD 0 = true ∧ t.cmc.conditions.getLsbD 18 = true ∧
    t.stu = { Stu.powerOn with fed := s.stu.fed } ∧
    (∀ h : HeadId, (t.head h).nCap = (s.head h).nCap ∧ (t.head h).spool = (s.head h).spool ∧
      ((s.head h).wireBreak = false → (t.head h).restartSpark = (s.head h).restartSpark) ∧ (t.head h).unit = none ∧
      (t.head h).snapshot = none ∧ (t.head h).failCount = 0 ∧ (t.head h).posOp = none) ∧
    t.trc.maps = s.trc.maps ∧ t.trc.inMag.number = s.trc.inMag.number ∧ t.trc.outMag.number = s.trc.outMag.number ∧
    t.trc.inMag.state = .absent ∧ t.trc.outMag.state = .absent ∧ t.trc.clamp = .unknown ∧ t.trc.seq = .idle ∧
    t.trc.push = none ∧ t.trc.store = none ∧ t.trc.heat = .unknown ∧
    t.dlc.queue = [] ∧ t.dlc.line = .free ∧ t.dlc.stopPending = true ∧
    (∀ d : Drive, (t.dlc.drives.get d).stage = .none ∧
      (t.dlc.drives.get d).attention = (s.dlc.drives.get d).attention) ∧
    t.psc.counter = s.psc.counter ∧ t.psc.stats = s.psc.stats ∧ t.psc.queue = [] ∧
    t.rm.bondA = { s.rm.bondA with reserved := 0, waiting := false } ∧
    t.rm.bondB = { s.rm.bondB with reserved := 0, waiting := false } ∧
    t.rm.pull = { s.rm.pull with reserved := 0, waiting := false } ∧
    t.rm.strip = { s.rm.strip with reserved := 0, waiting := false } ∧
    t.rm.event.first = s.rm.event.first ∧ t.rm.event.last = s.rm.event.last ∧
    t.rm.event.watermark = s.rm.event.watermark ∧
    (s.cmc.haltInput = false → (s.head .a).wireBreak = false → (s.head .b).wireBreak = false →
      t.rm.event = { s.rm.event with reserved := 0, waiting := false }) ∧
    t.pnc.timing = s.pnc.timing ∧ t.pnc.slots = s.pnc.slots ∧ t.pnc.h = s.pnc.h ∧ t.pnc.build = none ∧
    t.link.fast = s.link.fast ∧ t.link.rx = .hunt ∧ t.link.rxQueue = [] ∧ t.link.reply = none ∧
    t.link.restart = .no ∧ t.link.notices.head? = some (.started true s.link.fast) ∧ t.pending = s.pending

/-! ## The Station Link -/

/-- The bytes of a frame, sent one after the other into a receiver in HUNT, do exactly what the frame does when it is
offered whole: start byte, LEN, body and CRC are read back as the frame they stand for (R194, R195). With two CRC bytes
that are not those of its LEN and body the frame is discarded: LINK_CRC is set, and the receiver is back in HUNT. -/
def Obligations.FrameBytesReadBackAsTheFrame : Prop :=
  (∀ (f : Frame) (s : State), f.payload.length ≤ 248 → s.link.rx = .hunt →
    execAll (f.bytes.map fun b => .linkByteReceived b true) s = .next (s.offerFrame f)) ∧
  ∀ (f : Frame) (high low : Byte) (s : State), f.payload.length ≤ 248 → s.link.rx = .hunt →
    [high, low] ≠ beBytes 2 (crc16 f.lenBody).toNat →
    execAll ((0xA5#8 :: (f.lenBody ++ [high, low])).map fun b => .linkByteReceived b true) s =
      .next (s.txChoose.setCondition .linkCrc).txChoose

/-- The receiver's table (R194, R195): what one byte, a missing stop bit and a gap do in each state. In BODY and CRC every
good byte is data, 0xA5 too: a body byte is stored, the last of LEN leads to CRC, the first CRC byte is kept, and at the
second the frame is judged: a right CRC offers the frame, a wrong one sets LINK_CRC. That a gap in HUNT does nothing is
the model's choice (log 4). -/
def Obligations.ReceiverTakesOneByte : Prop :=
  ∀ (b : Byte) (s : State),
    (s.link.rx = .hunt → b = 0xA5#8 →
      exec (.linkByteReceived b true) s = .next ({ s with link := { s.link with rx := .length } } : State).txChoose) ∧
    (s.link.rx = .hunt → b ≠ 0xA5#8 → exec (.linkByteReceived b true) s = .next s.txChoose) ∧
    (s.link.rx = .length → 2 ≤ b.toNat → b.toNat ≤ 250 →
      exec (.linkByteReceived b true) s =
        .next ({ s with link := { s.link with rx := .body b.toNat [] } } : State).txChoose) ∧
    (s.link.rx = .length → (b.toNat < 2 ∨ 250 < b.toNat) →
      exec (.linkByteReceived b true) s =
        .next (({ s with link := { s.link with rx := .hunt } } : State).setCondition .linkFraming).txChoose) ∧
    (∀ (len : Nat) (bytes : List Byte), s.link.rx = .body len bytes →
      (bytes.length + 1 < len →
        exec (.linkByteReceived b true) s =
          .next ({ s with link := { s.link with rx := .body len (bytes ++ [b]) } } : State).txChoose) ∧
      (len ≤ bytes.length + 1 →
        exec (.linkByteReceived b true) s =
          .next ({ s with link := { s.link with rx := .crc len (bytes ++ [b]) none } } : State).txChoose)) ∧
    (∀ (len : Nat) (bytes : List Byte), s.link.rx = .crc len bytes none →
      exec (.linkByteReceived b true) s =
        .next ({ s with link := { s.link with rx := .crc len bytes (some b) } } : State).txChoose) ∧
    (∀ (len : Nat) (code tag high : Byte) (p : Payload), s.link.rx = .crc len (code :: tag :: p) (some high) →
      exec (.linkByteReceived b true) s =
        .next
          (if high.toNat * 256 + b.toNat = (crc16 (byte len :: code :: tag :: p)).toNat then
            (({ s with link := { s.link with rx := .hunt } } : State).offerFrame ⟨code, tag, p⟩).txChoose
          else (({ s with link := { s.link with rx := .hunt } } : State).setCondition .linkCrc).txChoose)) ∧
    (s.link.rx = .hunt → exec (.linkByteReceived b false) s = .next s.txChoose ∧ exec .linkGapTimeout s = .next s.txChoose) ∧
    (s.link.rx ≠ .hunt →
      exec (.linkByteReceived b false) s =
          .next (({ s with link := { s.link with rx := .hunt } } : State).setCondition .linkFraming).txChoose ∧
        exec .linkGapTimeout s =
          .next (({ s with link := { s.link with rx := .hunt } } : State).setCondition .linkFraming).txChoose)

/-- The link's queues (R192, R196, R197, R199, R203). While the reply slot is taken and the transmitter busy a request
waits: the receive queue takes it up to 4 frames, and at 4 it is dropped, LINK_OVERRUN set and no reply owed. When a frame
has been sent the transmitter takes the reply first, which empties the slot, and the oldest frame that waits is dispatched
at once: it leaves the queue and its reply takes the slot. With no frame waiting the oldest notice follows the reply, and
with nothing to send the transmitter is IDLE; behind a reset it is IDLE with STARTED to send, takes it at once, and the
first frame sent is that one (that the reset's own step leaves it IDLE is log 19). Behind a taken WARM_RESTART nothing is
dispatched; the frame sent with the slot empty is its reply, and the reset is due (that nothing else is dispatched or sent
in that window is log 20). -/
def Obligations.LinkQueuesAreServedInOrder : Prop :=
  (∀ (c : Instr) (f : Frame) (s : State), c.frame = some f → f.payload.length ≤ 248 → s.link.tx.isSome = true →
    s.link.reply.isSome = true →
    (s.link.rxQueue.length < 4 →
      exec c s = .next { s with link := { s.link with rxQueue := s.link.rxQueue ++ [f] } }) ∧
    (4 ≤ s.link.rxQueue.length → exec c s = .next (s.setCondition .linkOverrun))) ∧
  (∀ s : State, s.link.tx.isSome = true → s.link.rxQueue = [] → s.link.restart = .no →
    (∀ r, s.link.reply = some r →
      exec .frameSent s = .next { s with link := { s.link with tx := some (.reply r), reply := none } }) ∧
    (∀ n ns, s.link.reply = none → s.link.notices = n :: ns →
      exec .frameSent s = .next { s with link := { s.link with tx := some (.notice n), notices := ns } }) ∧
    (s.link.reply = none → s.link.notices = [] →
      exec .frameSent s = .next { s with link := { s.link with tx := none } })) ∧
  (∀ (f r : Frame) (fs : List Frame) (s : State), s.link.tx.isSome = true → s.link.rxQueue = f :: fs →
    s.link.reply = some r → s.link.restart = .no →
    let a : State := { s with link := { s.link with tx := some (.reply r), reply := none, rxQueue := fs } }
    exec .frameSent s =
      .next
        ((a.handle f).1.setLink
          { (a.handle f).1.link with
            reply :=
              some
                ⟨if 1 ≤ f.code.toNat ∧ f.code.toNat ≤ 0x3F then f.code + 0x40 else 0x40, f.tag, (a.handle f).2⟩ })) ∧
  (∀ (n : Notice) (ns : List Notice) (s : State), s.link.tx = none → s.link.rxQueue = [] → s.link.reply = none →
    s.link.restart = .no → s.link.notices = n :: ns →
    exec .frameSent s =
      .next { s with link := { s.link with tx := ns.head?.map .notice, notices := ns.drop 1 } }) ∧
  ∀ s : State, s.link.tx.isSome = true → s.link.restart = .replyPending →
    (s.link.reply = none →
      exec .frameSent s = .next { s with link := { s.link with tx := none, restart := .due } }) ∧
    ∀ r, s.link.reply = some r →
      exec .frameSent s = .next { s with link := { s.link with tx := some (.reply r), reply := none } }

/-- Every request that finds the link free is dispatched at once: the transmitter takes what waits, the owner's effects
happen, and the reply carries the request's TAG under its code + 0x40, or 0x40 for a code that is no request (R197). A
CODE that is no request is answered UNKNOWN_CODE with the code as detail, and nothing else changes (R197); a frame longer
than a frame can be is no frame, and exec stops (R194; the stop is the model's choice, log 23). -/
def Obligations.FreeLinkAnswersEveryRequest : Prop :=
  (∀ (c : Instr) (f : Frame) (s : State), c.frame = some f → f.payload.length ≤ 248 → s.link.Free →
    exec c s =
      .next
        ((s.txChoose.handle f).1.answered
          ⟨if 1 ≤ f.code.toNat ∧ f.code.toNat ≤ 0x3F then f.code + 0x40 else 0x40, f.tag, (s.txChoose.handle f).2⟩)) ∧
  (∀ (code tag : Byte) (p : Payload) (s : State), requestCodes.contains code.toNat = false → p.length ≤ 248 →
    s.link.Free →
    exec (.unknownCode code tag p) s =
      .next
        (s.txChoose.answered
          ⟨if 1 ≤ code.toNat ∧ code.toNat ≤ 0x3F then code + 0x40 else 0x40, tag, [0x01, code]⟩)) ∧
  ∀ (c : Instr) (f : Frame) (s : State), c.frame = some f → 248 < f.payload.length → exec c s = .fault .payloadTooLong

/-- LINK_ECHO (R202): up to 247 bytes come back after OK, 248 give BAD_LENGTH, and nothing else changes. -/
def Obligations.LinkEchoReturnsThePayload : Prop :=
  ∀ (tag : Byte) (p : Payload) (s : State), s.link.Free →
    (p.length ≤ 247 → exec (.linkEcho tag p) s = .next (s.txChoose.answered ⟨0x42, tag, 0x00 :: p⟩)) ∧
    (p.length = 248 → exec (.linkEcho tag p) s = .next (s.txChoose.answered ⟨0x42, tag, [0x02, 0x00]⟩))

/-- IDENTIFY (R201): the sixteen bytes, in every mode, and nothing else changes. -/
def Obligations.IdentifyReportsThePart : Prop :=
  ∀ (tag : Byte) (p : Payload) (s : State), s.link.Free → p.length ≤ 248 →
    (p = [] →
      exec (.identify tag p) s =
        .next
          (s.txChoose.answered
            ⟨0x41, tag,
              [0x00, 0x4B, 0x42, 0x32, 3, if s.link.fast then 1 else 0, 4, 16, 0x02, 0x00, 64, 32, 5, 0x10, 0x00, 24, 32]⟩)) ∧
    (p ≠ [] → exec (.identify tag p) s = .next (s.txChoose.answered ⟨0x41, tag, [0x02, 0x00]⟩))

/-! ## Requests of the CMC -/

/-- GET_CELL_STATUS and READ_CONDITIONS (R190, R191): what the CMC holds, and nothing but the link changes. -/
def Obligations.CellStatusReportsTheCmc : Prop :=
  ∀ (tag : Byte) (s : State), s.link.Free →
    exec (.getCellStatus tag []) s =
        .next
          (s.txChoose.answered
            ⟨0x49, tag,
              [0x00, byte s.cmc.mode.code, byte s.cmc.cause, byte s.cmc.lot.code] ++ beBytes 4 s.cmc.lotId ++
                [boolByte s.cmc.hold.isSome, byte ((s.cmc.hold.map HoldCause.code).getD 0)] ++
                beBytes 4 ((s.cmc.hold.map HoldCause.serial).getD 0) ++
                [boolByte s.cmc.trackCheck, boolByte s.cmc.haltInput,
                  boolByte (s.cmc.conditions &&& s.cmc.enables != 0#22)] ++
                beBytes 4 s.cmc.conditions.toNat ++ beBytes 4 s.cmc.enables.toNat ++ beBytes 4 s.cmc.cellTime ++
                [if s.cmc.lot = .closing then
                    boolByte (s.cmc.mode != .setup) ||| boolByte (!s.trackEmpty) <<< 1 |||
                      boolByte (!s.psc.queue.isEmpty) <<< 2
                  else 0]⟩) ∧
      exec (.readConditions tag []) s =
        .next
          (s.txChoose.answered
            ⟨0x4F, tag,
              0x00 :: (beBytes 4 s.cmc.conditions.toNat ++ beBytes 4 s.cmc.enables.toNat ++
                [boolByte (s.cmc.conditions &&& s.cmc.enables != 0#22)])⟩)

/-- SET_MODE (R179, R180, R183): to SETUP unless the HALT input holds the cell in HALT; to RUN outside HALT with the hold
clear, a lot open, the recipe check passing and the track-check flag set; to DRAIN from RUN. The mode becomes the target
with cause 1; hold, lot id, track-check flag, enables, HALT input, cell time, Recipe Store and screens stay. Refused, it
fails the tests of RUN in their order, HALT kept while its input is asserted, DRAIN from RUN only; a request for the mode
the cell is in is answered OK; then the reply is all that changes. -/
def Obligations.SetModeMovesTheCellOrIsRefused : Prop :=
  (∀ (tag : Byte) (target : Mode) (s : State), s.link.Free → s.cmc.mode ≠ target →
    (target = .setup ∧ (s.cmc.mode = .halt → s.cmc.haltInput = false) ∨
      target = .run ∧ s.cmc.mode ≠ .halt ∧ s.cmc.hold = none ∧ s.cmc.lot = .opened ∧ checkRecipe s.rs = none ∧
        s.cmc.trackCheck = true ∨
      target = .drain ∧ s.cmc.mode = .run) →
    ∃ t : State, exec (.setMode tag [byte target.code]) s = .next t ∧ t.Answers ⟨0x48, tag, [0x00]⟩ ∧
      t.cmc.mode = target ∧ t.cmc.cause = 1 ∧ t.cmc.hold = s.cmc.hold ∧ t.cmc.lotId = s.cmc.lotId ∧
      t.cmc.trackCheck = s.cmc.trackCheck ∧ t.cmc.enables = s.cmc.enables ∧ t.cmc.haltInput = s.cmc.haltInput ∧
      t.cmc.cellTime = s.cmc.cellTime ∧ t.rs = s.rs ∧ t.pnc.slots = s.pnc.slots ∧ t.pnc.timing = s.pnc.timing ∧
      t.pnc.selection = s.pnc.selection ∧ t.pending = s.pending) ∧
  ∀ (tag : Byte) (s : State), s.link.Free →
    exec (.setMode tag [byte s.cmc.mode.code]) s =
        (if s.cmc.mode = .halt then .next (s.txChoose.answered ⟨0x48, tag, [0x03, 0x01]⟩)
          else .next (s.txChoose.answered ⟨0x48, tag, [0x00]⟩)) ∧
      (s.cmc.mode = .halt → s.cmc.haltInput = true →
        exec (.setMode tag [0]) s = .next (s.txChoose.answered ⟨0x48, tag, [0x04, 0x00]⟩)) ∧
      (s.cmc.mode = .halt → exec (.setMode tag [1]) s = .next (s.txChoose.answered ⟨0x48, tag, [0x04, 0x00]⟩)) ∧
      (s.cmc.mode ≠ .halt → s.cmc.mode ≠ .run → s.cmc.hold.isSome = true →
        exec (.setMode tag [1]) s = .next (s.txChoose.answered ⟨0x48, tag, [0x07, 0x00]⟩)) ∧
      (s.cmc.mode ≠ .halt → s.cmc.mode ≠ .run → s.cmc.hold = none → s.cmc.lot ≠ .opened →
        exec (.setMode tag [1]) s = .next (s.txChoose.answered ⟨0x48, tag, [0x05, 0x01]⟩)) ∧
      (s.cmc.mode ≠ .halt → s.cmc.mode ≠ .run → s.cmc.hold = none → s.cmc.lot = .opened →
        ∀ f, checkRecipe s.rs = some f →
          exec (.setMode tag [1]) s =
            .next (s.txChoose.answered ⟨0x48, tag, 0x05 :: 0x02 :: byte f.code :: beBytes 2 f.arg1 ++ [byte f.arg2]⟩)) ∧
      (s.cmc.mode ≠ .halt → s.cmc.mode ≠ .run → s.cmc.hold = none → s.cmc.lot = .opened → checkRecipe s.rs = none →
        s.cmc.trackCheck = false →
        exec (.setMode tag [1]) s = .next (s.txChoose.answered ⟨0x48, tag, [0x05, 0x03]⟩)) ∧
      (s.cmc.mode ≠ .run → s.cmc.mode ≠ .drain →
        exec (.setMode tag [2]) s = .next (s.txChoose.answered ⟨0x48, tag, [0x04, 0x00]⟩))

/-- START_LOT in SETUP with no lot (R184): the lot is OPEN under its id, strips fed, pull counter and pull statistics
start over, and mode, hold, Recipe Store and screens stay. END_LOT with the lot OPEN (R185): the lot becomes CLOSING, or
NONE at once when the cell stands in SETUP with an empty track and an empty classification queue; a cell in RUN enters
DRAIN. -/
def Obligations.LotsAreOpenedAndClosed : Prop :=
  (∀ (tag : Byte) (id : Nat) (s : State), s.link.Free → id < 2 ^ 32 → s.cmc.mode = .setup → s.cmc.lot = .none →
    ∃ t : State, exec (.startLot tag (beBytes 4 id)) s = .next t ∧ t.Answers ⟨0x4A, tag, [0x00]⟩ ∧
      t.cmc.lot = .opened ∧ t.cmc.lotId = id ∧ t.stu = { s.stu with fed := 0 } ∧
      t.psc = { s.psc with counter := 0, stats := .zero } ∧
      t.trc.inMag.number = (if s.trc.inMag.state = .absent then 0 else 1) ∧
      t.trc.outMag.number = (if s.trc.outMag.state = .absent then 0 else 1) ∧
      t.cmc.mode = .setup ∧ t.cmc.hold = s.cmc.hold ∧ t.cmc.trackCheck = s.cmc.trackCheck ∧ t.heads = s.heads ∧
      t.dlc = s.dlc ∧ t.rs = s.rs ∧ t.pnc = s.pnc ∧ t.pending = s.pending) ∧
  ∀ (tag : Byte) (s : State), s.link.Free → s.cmc.lot = .opened →
    ∃ t : State, exec (.endLot tag []) s = .next t ∧ t.Answers ⟨0x4B, tag, [0x00]⟩ ∧
      t.cmc.lot = (if s.cmc.mode = .setup ∧ s.trackEmpty = true ∧ s.psc.queue = [] then .none else .closing) ∧
      t.cmc.mode = (if s.cmc.mode = .run then .drain else s.cmc.mode) ∧ t.cmc.hold = s.cmc.hold ∧
      t.cmc.lotId = s.cmc.lotId ∧ t.rs = s.rs ∧ t.pnc.slots = s.pnc.slots ∧ t.pending = s.pending

/-- SET_HOLD and CLEAR_HOLD (R186, R187): a clear hold is set with cause HOST and takes a cell in RUN to DRAIN; a set hold
keeps its cause; CLEAR_HOLD clears it and leaves the mode. -/
def Obligations.HoldIsSetAndCleared : Prop :=
  ∀ (tag : Byte) (s : State), s.link.Free →
    (∃ t : State, exec (.setHold tag []) s = .next t ∧ t.Answers ⟨0x4C, tag, [0x00]⟩ ∧
      t.cmc.hold = some (s.cmc.hold.getD .host) ∧
      t.cmc.mode = (if s.cmc.hold = none ∧ s.cmc.mode = .run then .drain else s.cmc.mode) ∧
      t.cmc.lotId = s.cmc.lotId ∧ t.rs = s.rs ∧ t.pnc.slots = s.pnc.slots ∧ t.pending = s.pending) ∧
    (∃ t : State, exec (.clearHold tag []) s = .next t ∧ t.Answers ⟨0x4D, tag, [0x00]⟩ ∧ t.cmc.hold = none ∧
      t.cmc.mode = s.cmc.mode ∧ t.cmc.lot = s.cmc.lot ∧ t.cmc.lotId = s.cmc.lotId ∧ t.rs = s.rs ∧ t.stu = s.stu ∧
      t.trc = s.trc ∧ t.dlc = s.dlc ∧ t.psc = s.psc ∧ t.pnc.slots = s.pnc.slots ∧ t.pending = s.pending)

/-- HALT by request (cause 7) or by the input (cause 6) from any other mode (R41, R111, R128, R139, R182): the cell is in
HALT. The command queue is empty, every drive's stage NONE, an exchange on the line discarded and a STOP pending. No head
is ACTIVE: a wire in work is committed ABORTED, its head loses the unit with its restart-spark flag set and its fail count
kept. The sequence is IDLE and the clamp UNKNOWN, an index in progress taken as complete. The station is not PULLING: an
abandoned pull, of a strip handed over with no index in progress, returns its reservation without a record, and the
station waits at the same entry. HALT_ACTIVE stands, HALT_ENTERED is set and its event written. In HALT already, neither
changes anything but the reply or the input's level. Recipe Store, lot id, enables and screens stay. -/
def Obligations.HaltIsEntered : Prop :=
  ∀ (tag : Byte) (s : State), s.link.Free →
    (∀ (c : Instr) (cause : Nat), s.cmc.mode ≠ .halt →
      (c = .halt tag [] ∧ cause = 7 ∨ c = .haltInputAsserted ∧ cause = 6) →
      (∀ h : HeadId, (s.head h).state = .active → (s.head h).snapshot.isSome = true) →
      ∃ t : State, exec c s = .next t ∧ (c = .halt tag [] → t.Answers ⟨0x4E, tag, [0x00]⟩) ∧ t.cmc.mode = .halt ∧
        t.cmc.cause = cause ∧ t.cmc.haltInput = (s.cmc.haltInput || cause == 6) ∧ t.cmc.lotId = s.cmc.lotId ∧
        t.cmc.hold = s.cmc.hold ∧ t.cmc.enables = s.cmc.enables ∧ t.rs = s.rs ∧ t.pnc.slots = s.pnc.slots ∧
        t.pending = s.pending ∧
        t.dlc.queue = [] ∧ t.dlc.stopPending = true ∧ (∀ d : Drive, (t.dlc.drives.get d).stage = .none) ∧
        t.dlc.line = (match s.dlc.line with | .command d _ => .command d true | l => l) ∧
        (∀ h : HeadId, (t.head h).state ≠ .active ∧
          ((s.head h).state ≠ .active → (t.rm.get (bondRegion h)).records = (s.rm.get (bondRegion h)).records) ∧
          ∀ n : Snapshot, (s.head h).state = .active → (s.head h).snapshot = some n → s.stu.request.get h = false →
            (∃ r : WireRecord, r.outcome = .aborted ∧ r.unit = n.unit ∧ r.wire = n.wire ∧
              (t.rm.get (bondRegion h)).records = (s.rm.get (bondRegion h)).records ++ [.wire r]) ∧
            (t.rm.get (bondRegion h)).reserved = (s.rm.get (bondRegion h)).reserved - 1 ∧
            (t.head h).unit = none ∧ (t.head h).snapshot = none ∧ (t.head h).phase = none ∧
            ((s.dlc.drives.get (positioner h)).stage ≠ .none → (t.head h).posOp = none) ∧
            (t.head h).heldOp = none ∧ (t.head h).restartSpark = true ∧ (t.head h).failCount = (s.head h).failCount ∧
            (t.head h).force = 0 ∧ (t.head h).ultrasonic = 0 ∧
            ((s.head h).wireBreak = false → (t.head h).state = .idle ∧ (t.head h).reason = none)) ∧
        t.trc.seq = .idle ∧ t.trc.seqStopped = false ∧ t.trc.clamp = .unknown ∧ t.trc.stopSequence = false ∧
        t.stu.strips.map (fun r => (r.serial, r.station)) =
          s.stu.strips.map (fun r =>
            (r.serial,
              if s.trc.seq = .index ∧ s.trc.seqStopped = false then
                match r.station with
                | .load => .preheat
                | .preheat => .bond
                | .bond => .verify
                | .verify => .exit
                | .exit => .exit
              else r.station)) ∧
        t.psc.state ≠ .pulling ∧ t.psc.queue = s.psc.queue ∧ t.psc.counter = s.psc.counter ∧ t.psc.stats = s.psc.stats ∧
        t.rm.pull.records = s.rm.pull.records ∧
        (s.psc.state ≠ .pulling → t.rm.pull.reserved = s.rm.pull.reserved) ∧
        (∀ f : Flight, s.psc.state = .pulling → s.psc.flight = some f → (s.dlc.drives.get .pull).stage ≠ .none →
          s.trc.handedOver = true → s.trc.seq ≠ .index →
          t.rm.pull.reserved = s.rm.pull.reserved - 1 ∧ t.psc.state = .waiting ∧ t.psc.gate = some .mode ∧
            t.psc.strip = s.psc.strip ∧ t.psc.next = s.psc.next ∧ t.psc.flight = none) ∧
        (t.pnc.findPrompt .haltActive 0).isSome = true ∧ t.cmc.conditions.getLsbD 5 = true ∧
        (∃ serial lost, t.rm.event.records.getLast? =
          some
            (.event ⟨serial, s.cmc.cellTime, .haltEntered, 16, (if cause = 6 then 1 else 2) * 2 ^ 24, lost⟩))) ∧
    (s.cmc.mode = .halt →
      exec (.halt tag []) s = .next (s.txChoose.answered ⟨0x4E, tag, [0x00]⟩) ∧
      exec .haltInputAsserted s = .next (s.setCmc { s.cmc with haltInput := true }).txChoose)

/-- CLEAR_CONDITIONS and SET_ALERT_ENABLES (R165, R190): the conditions of the mask are cleared, PANEL_UNLOCKED only while
the lock input reads LOCKED, and the reply gives the set left; the enables become the mask, and each condition newly
enabled while set gets its CONDITION notice. -/
def Obligations.ConditionsAreClearedAndEnabled : Prop :=
  ∀ (tag : Byte) (mask : BitVec 22) (s : State), s.link.Free →
    exec (.clearConditions tag (beBytes 4 mask.toNat)) s =
        .next
          ((s.txChoose.setCmc
              { s.cmc with
                conditions := s.cmc.conditions &&& ~~~(if s.pnc.locked then mask else mask &&& ~~~(1#22 <<< 18)) }).answered
            ⟨0x50, tag,
              0x00 :: beBytes 4
                (s.cmc.conditions &&& ~~~(if s.pnc.locked then mask else mask &&& ~~~(1#22 <<< 18))).toNat⟩) ∧
      exec (.setAlertEnables tag (beBytes 4 mask.toNat)) s =
        .next
          (((s.txChoose.setCmc { s.cmc with enables := mask }).noticeConditions
              (conditionsIn (mask &&& ~~~s.cmc.enables &&& s.cmc.conditions))).answered ⟨0x51, tag, [0x00]⟩)

/-- WARM_RESTART (R192): taken in SETUP with the track and the classification queue empty, it is answered OK and the reset
waits for the reply to leave; otherwise it is refused in the order of its tests and nothing else changes. -/
def Obligations.WarmRestartIsTaken : Prop :=
  ∀ (tag : Byte) (s : State), s.link.Free →
    exec (.warmRestart tag []) s =
      .next
        (if s.cmc.mode ≠ .setup then s.txChoose.answered ⟨0x52, tag, [0x04, 0x00]⟩
          else if s.trackEmpty = false then s.txChoose.answered ⟨0x52, tag, [0x09, 0x00]⟩
          else if s.psc.queue ≠ [] then s.txChoose.answered ⟨0x52, tag, [0x08, 0x00]⟩
          else (s.txChoose.setLink { s.txChoose.link with restart := .replyPending }).answered ⟨0x52, tag, [0x00]⟩)

/-! ## The Recipe Store -/

/-- LOAD_LAYOUT in SETUP with the track empty and every field in its range (R5): the layout replaces the previous one with
its flag set, every wire entry is cleared, and nothing else changes. LOAD_WIRES of 1 to 6 entries in SETUP with a layout
loaded and the track empty (R7): entries f to f + n - 1 are replaced and flagged, every other entry stays, and nothing
else changes. -/
def Obligations.LayoutAndWiresAreLoaded : Prop :=
  (∀ (tag : Byte) (l : Layout) (s : State), s.link.Free → s.cmc.mode = .setup → s.trackEmpty = true →
    1 ≤ l.rows → l.rows ≤ 8 → 1 ≤ l.cols → l.cols ≤ 24 → 100 ≤ l.px → l.px ≤ 100000 → 100 ≤ l.py → l.py ≤ 100000 →
    -2000000000 ≤ l.ox → l.ox ≤ 2000000000 → -2000000000 ≤ l.oy → l.oy ≤ 2000000000 → 1 ≤ l.wires → l.wires ≤ 512 →
    l.a ≤ l.cols → l.b ≤ l.cols + 1 → l.a < l.b →
    exec
        (.loadLayout tag
          ([byte l.rows, byte l.cols] ++ beBytes 4 l.px ++ beBytes 4 l.py ++ intBytes 4 l.ox ++ intBytes 4 l.oy ++
            beBytes 2 l.wires ++ [byte l.a, byte l.b])) s =
      .next
        ((s.txChoose.setRs
            { s.rs with layout := ⟨l, true⟩, wires := Vector.replicate 512 ⟨WireEntry.zero, false⟩ }).answered
          ⟨0x54, tag, [0x00]⟩)) ∧
  ∀ (tag : Byte) (f : Nat) (es : List WireEntry) (s : State), s.link.Free → s.cmc.mode = .setup →
    s.trackEmpty = true → s.rs.layout.loaded = true → 1 ≤ f → 1 ≤ es.length → es.length ≤ 6 →
    f + es.length - 1 ≤ s.rs.layout.item.wires → s.rs.layout.item.wires ≤ 512 →
    (∀ w ∈ es, -32000 ≤ w.x1 ∧ w.x1 ≤ 32000 ∧ -32000 ≤ w.y1 ∧ w.y1 ≤ 32000 ∧ w.z1 ≤ 65535 ∧ -32000 ≤ w.x2 ∧
      w.x2 ≤ 32000 ∧ -32000 ≤ w.y2 ∧ w.y2 ≤ 32000 ∧ w.z2 ≤ 65535 ∧ w.loop ≤ 31 ∧ w.ballSet ≤ 63 ∧ w.stitchSet ≤ 63) →
    ∃ wires : Vector (Loaded WireEntry) 512,
      exec
            (.loadWires tag
              (beBytes 2 f ++ byte es.length :: es.flatMap fun w =>
                intBytes 2 w.x1 ++ intBytes 2 w.y1 ++ beBytes 2 w.z1 ++ intBytes 2 w.x2 ++ intBytes 2 w.y2 ++
                  beBytes 2 w.z2 ++ [byte w.loop, byte w.ballSet, byte w.stitchSet])) s =
          .next ((s.txChoose.setRs { s.rs with wires := wires }).answered ⟨0x55, tag, [0x00]⟩) ∧
        ∀ (i : Nat) (h : i < 512),
          wires[i] = if f ≤ i + 1 then (es[i + 1 - f]?.map fun w => ⟨w, true⟩).getD s.rs.wires[i] else s.rs.wires[i]

/-- LOAD_BOND_SET and LOAD_LOOP outside HALT with every field in its range (R8, R9): the item at the index is replaced and
flagged, and nothing else changes. LOAD_PLAN in SETUP with every field in its range and no site twice (R10): the plan is
replaced whole, its sites in the order given, whether or not the track is empty, and nothing else changes. -/
def Obligations.ProcessItemsAndPlanAreLoaded : Prop :=
  (∀ (tag : Byte) (i : Fin 64) (b : BondSet) (s : State), s.link.Free → s.cmc.mode ≠ .halt →
    50 ≤ b.force → b.force ≤ 2000 → b.pSet ≤ 1000 → b.r ≤ 100 → b.tPre % 50 = 0 → b.tPre ≤ b.t → 100 ≤ b.t →
    b.t ≤ 51200 → b.t % 50 = 0 → b.cw ≤ 5000 → b.eMin ≤ b.eMax → b.eMax ≤ 65535 → b.dMin ≤ b.dMax → b.dMax ≤ 2000 →
    b.guard ≤ 25 →
    exec
        (.loadBondSet tag
          (byte i.val :: beBytes 2 b.force ++ beBytes 2 b.pSet ++ [byte b.r] ++ beBytes 2 b.tPre ++ beBytes 2 b.t ++
            beBytes 2 b.cw ++ beBytes 2 b.eMin ++ beBytes 2 b.eMax ++ beBytes 2 b.dMin ++ beBytes 2 b.dMax ++
            [byte b.guard])) s =
      .next ((s.txChoose.setRs { s.rs with sets := s.rs.sets.set i.val ⟨b, true⟩ }).answered ⟨0x56, tag, [0x00]⟩)) ∧
  (∀ (tag : Byte) (i : Fin 32) (l : LoopProfile) (s : State), s.link.Free → s.cmc.mode ≠ .halt →
    50 ≤ l.height → l.height ≤ 1000 → l.reverse ≤ 500 → l.shape ≤ 7 →
    exec (.loadLoop tag (byte i.val :: beBytes 2 l.height ++ beBytes 2 l.reverse ++ [byte l.shape])) s =
      .next ((s.txChoose.setRs { s.rs with loops := s.rs.loops.set i.val ⟨l, true⟩ }).answered ⟨0x57, tag, [0x00]⟩)) ∧
  ∀ (tag : Byte) (q : Plan) (s : State), s.link.Free → s.cmc.mode = .setup →
    q.k ≤ 255 → q.sites.length ≤ 16 → q.m ≤ 8 → q.q ≤ 255 → q.fMin ≤ 65535 → 1 ≤ q.accept.toNat → q.accept.toNat ≤ 31 →
    (∀ x ∈ q.sites, 1 ≤ x.row ∧ x.row ≤ 8 ∧ 1 ≤ x.col ∧ x.col ≤ 24 ∧ 1 ≤ x.wire ∧ x.wire ≤ 512) → q.sites.Nodup →
    exec
        (.loadPlan tag
          ([byte q.k, byte q.sites.length, byte q.m, byte q.q] ++ beBytes 2 q.fMin ++ [q.accept] ++
            q.sites.flatMap fun x => [byte x.row, byte x.col] ++ beBytes 2 x.wire)) s =
      .next ((s.txChoose.setRs { s.rs with plan := q }).answered ⟨0x58, tag, [0x00]⟩)

/-- LOAD_HEAD_CONFIG in SETUP with the track empty and every field in its range (R12, R13, R83, R88, R91): the head's
configuration is replaced and flagged; a spool above the new size is cut to it, each warning stays armed exactly while its
level is not reached, the capillary count is kept, and an enabled head made disabled is DISABLED. The other head, the lot,
the hold and the mode stay. -/
def Obligations.LoadHeadConfigJudgesTheHead : Prop :=
  ∀ (tag : Byte) (h g : HeadId) (c : HeadConfig) (s : State), s.link.Free → s.cmc.mode = .setup → s.trackEmpty = true →
    h ≠ g → (c.enabled = false → (s.head h).state ≠ .suspended) →
    c.pLim ≤ 1000 → 10000 ≤ c.life → c.life ≤ 4000000 → c.gain ≤ 100 → 1 ≤ c.liftLimit → c.liftLimit ≤ 15 →
    c.retries ≤ 3 → -2000000000 ≤ c.hx → c.hx ≤ 2000000000 → -2000000000 ≤ c.hy → c.hy ≤ 2000000000 →
    10 ≤ c.timeout → c.timeout ≤ 5000 → c.timeout % 10 = 0 → 1 ≤ c.spoolSize → c.spoolSize ≤ 2000 →
    c.spoolLow ≤ c.spoolSize → c.spoolReserve ≤ c.spoolLow →
    ∃ t : State,
      exec
          (.loadHeadConfig tag
            ([byte (headNo h), boolByte c.enabled] ++ beBytes 2 c.pLim ++ beBytes 4 c.life ++
              [byte c.gain, byte c.liftLimit, byte c.retries] ++ intBytes 4 c.hx ++ intBytes 4 c.hy ++
              beBytes 2 c.timeout ++ beBytes 2 c.spoolSize ++ beBytes 2 c.spoolLow ++ beBytes 2 c.spoolReserve)) s =
        .next t ∧
      t.Answers ⟨0x59, tag, [0x00]⟩ ∧ t.rs = { s.rs with heads := s.rs.heads.set h ⟨c, true⟩ } ∧
      (t.head h).spool = min (s.head h).spool (c.spoolSize * 100000) ∧ (t.head h).nCap = (s.head h).nCap ∧
      ((t.head h).spoolArmed = true → c.spoolLow * 100000 ≤ (t.head h).spool) ∧
      (c.spoolLow * 100000 ≤ (t.head h).spool → (t.head h).spoolArmed = true) ∧
      ((s.head h).nCap < c.life * 95 / 100 → (t.head h).capArmed = true) ∧
      (c.life * 95 / 100 ≤ (s.head h).nCap → (t.head h).capArmed = false) ∧
      ((s.config h).enabled = true → c.enabled = false → (t.head h).state = .disabled) ∧
      t.head g = s.head g ∧ t.cmc.mode = s.cmc.mode ∧ t.cmc.lot = s.cmc.lot ∧ t.cmc.hold = s.cmc.hold ∧
      t.stu = s.stu ∧ t.trc = s.trc ∧ t.dlc = s.dlc ∧ t.psc = s.psc ∧ t.pending = s.pending

/-- LOAD_TRACK_CONFIG in SETUP with the track empty and every field in its range (R14, R105, R106): the configuration is
replaced and flagged, the heat is UNKNOWN, and one SET_TEMP with the new setpoint goes to the work holder, at once or
behind the one still outstanding and those that wait; that each that waits keeps the setpoint of its own sending is the
model's choice (log 31). The lot, the hold, the mode and the pull station stay. -/
def Obligations.LoadTrackConfigSetsTheHeat : Prop :=
  ∀ (tag : Byte) (c : TrackConfig) (s : State), s.link.Free → s.cmc.mode = .setup → s.trackEmpty = true →
    1 ≤ c.inSlots → c.inSlots ≤ 64 → 1 ≤ c.outSlots → c.outSlots ≤ 64 → c.dwell ≤ 60000 → 1000 ≤ c.setpoint →
    c.setpoint ≤ 3000 → 10 ≤ c.band → c.band ≤ 200 → 10 ≤ c.indexerTimeout → c.indexerTimeout ≤ 5000 →
    c.indexerTimeout % 10 = 0 → 10 ≤ c.elevatorTimeout → c.elevatorTimeout ≤ 5000 → c.elevatorTimeout % 10 = 0 →
    10 ≤ c.pullTimeout → c.pullTimeout ≤ 5000 → c.pullTimeout % 10 = 0 →
    ∃ t : State,
      exec
          (.loadTrackConfig tag
            ([byte c.inSlots, byte c.outSlots] ++ beBytes 2 c.dwell ++ beBytes 2 c.setpoint ++ [byte c.band] ++
              beBytes 2 c.indexerTimeout ++ beBytes 2 c.elevatorTimeout ++ beBytes 2 c.pullTimeout)) s =
        .next t ∧
      t.Answers ⟨0x5A, tag, [0x00]⟩ ∧ t.rs = { s.rs with track := ⟨c, true⟩ } ∧
      t.trc =
        { s.trc with
          heat := .unknown
          setTempOut := true
          setTempWaiting :=
            if s.trc.setTempOut then s.trc.setTempWaiting ++ [c.setpoint] else s.trc.setTempWaiting } ∧
      t.dlc =
        (if s.trc.setTempOut then s.dlc
         else
          { s.dlc with
            queue := s.dlc.queue ++ [.workHolder]
            drives :=
              { s.dlc.drives with
                workHolder :=
                  { s.dlc.drives.workHolder with stage := .queued, op := some (.setTemp c.setpoint) } } }) ∧
      t.cmc.mode = s.cmc.mode ∧ t.cmc.lot = s.cmc.lot ∧ t.cmc.hold = s.cmc.hold ∧ t.stu = s.stu ∧ t.psc = s.psc ∧
      t.rm = s.rm ∧ t.pending = s.pending

/-- READ_RECIPE_ITEM and CHECK_RECIPE (R17, R18): every kind of item reads back as its flag and its fields, the plan
without a flag and with its sites last, up to six wires after another, the check answers its failure code and arguments or
zeros, and nothing but the link changes. -/
def Obligations.TheRecipeIsReadBack : Prop :=
  ∀ (tag : Byte) (s : State), s.link.Free →
    (∀ i : Fin 64,
      exec (.readRecipeItem tag (3 :: beBytes 2 i.val)) s =
        .next
          (s.txChoose.answered
            ⟨0x5B, tag,
              0x00 :: boolByte s.rs.sets[i.val].loaded ::
                (let b := s.rs.sets[i.val].item
                 beBytes 2 b.force ++ beBytes 2 b.pSet ++ beBytes 1 b.r ++ beBytes 2 b.tPre ++ beBytes 2 b.t ++
                  beBytes 2 b.cw ++ beBytes 2 b.eMin ++ beBytes 2 b.eMax ++ beBytes 2 b.dMin ++ beBytes 2 b.dMax ++
                  beBytes 1 b.guard)⟩)) ∧
    exec (.readRecipeItem tag [1, 0, 0]) s =
      .next
        (s.txChoose.answered
          ⟨0x5B, tag,
            0x00 :: boolByte s.rs.layout.loaded ::
              (let l := s.rs.layout.item
               beBytes 1 l.rows ++ beBytes 1 l.cols ++ beBytes 4 l.px ++ beBytes 4 l.py ++ intBytes 4 l.ox ++
                intBytes 4 l.oy ++ beBytes 2 l.wires ++ beBytes 1 l.a ++ beBytes 1 l.b)⟩) ∧
    (∀ i : Fin 32,
      exec (.readRecipeItem tag (4 :: beBytes 2 i.val)) s =
        .next
          (s.txChoose.answered
            ⟨0x5B, tag,
              0x00 :: boolByte s.rs.loops[i.val].loaded ::
                (let l := s.rs.loops[i.val].item
                 beBytes 2 l.height ++ beBytes 2 l.reverse ++ beBytes 1 l.shape)⟩)) ∧
    exec (.readRecipeItem tag [5, 0, 0]) s =
      .next
        (s.txChoose.answered
          ⟨0x5B, tag,
            0x00 ::
              (let q := s.rs.plan
               beBytes 1 q.k ++ beBytes 1 q.sites.length ++ beBytes 1 q.m ++ beBytes 1 q.q ++ beBytes 2 q.fMin ++
                [q.accept] ++ q.sites.flatMap fun x => beBytes 1 x.row ++ beBytes 1 x.col ++ beBytes 2 x.wire)⟩) ∧
    (∀ h : HeadId,
      exec (.readRecipeItem tag [6, 0, byte (headNo h)]) s =
        .next
          (s.txChoose.answered
            ⟨0x5B, tag,
              0x00 :: boolByte (s.rs.heads.get h).loaded ::
                (let c := (s.rs.heads.get h).item
                 boolByte c.enabled :: (beBytes 2 c.pLim ++ beBytes 4 c.life ++ beBytes 1 c.gain ++ beBytes 1 c.liftLimit ++
                  beBytes 1 c.retries ++ intBytes 4 c.hx ++ intBytes 4 c.hy ++ beBytes 2 c.timeout ++
                  beBytes 2 c.spoolSize ++ beBytes 2 c.spoolLow ++ beBytes 2 c.spoolReserve))⟩)) ∧
    exec (.readRecipeItem tag [7, 0, 0]) s =
      .next
        (s.txChoose.answered
          ⟨0x5B, tag,
            0x00 :: boolByte s.rs.track.loaded ::
              (let c := s.rs.track.item
               beBytes 1 c.inSlots ++ beBytes 1 c.outSlots ++ beBytes 2 c.dwell ++ beBytes 2 c.setpoint ++
                beBytes 1 c.band ++ beBytes 2 c.indexerTimeout ++ beBytes 2 c.elevatorTimeout ++
                beBytes 2 c.pullTimeout)⟩) ∧
    (∀ f n : Nat, 1 ≤ f → 1 ≤ n → n ≤ 6 → f + n - 1 ≤ 512 →
      exec (.readRecipeItem tag (2 :: beBytes 2 f ++ [byte n])) s =
        .next
          (s.txChoose.answered
            ⟨0x5B, tag,
              0x00 :: ((s.rs.wires.toList.drop (f - 1)).take n).flatMap fun w =>
                boolByte w.loaded :: (intBytes 2 w.item.x1 ++ intBytes 2 w.item.y1 ++ beBytes 2 w.item.z1 ++
                  intBytes 2 w.item.x2 ++ intBytes 2 w.item.y2 ++ beBytes 2 w.item.z2 ++ beBytes 1 w.item.loop ++
                  beBytes 1 w.item.ballSet ++ beBytes 1 w.item.stitchSet)⟩)) ∧
    exec (.checkRecipe tag []) s =
      .next
        (s.txChoose.answered
          ⟨0x5C, tag,
            match checkRecipe s.rs with
            | none => [0x00, 0x00, 0x00, 0x00, 0x00]
            | some x => 0x00 :: byte x.code :: beBytes 2 x.arg1 ++ [byte x.arg2]⟩)

/-! ## Status requests -/

/-- HEAD_STATUS, DRIVE_STATUS and PROMPT_STATUS (R45, R130, R175): the bytes of the reply, in every mode; nothing but the
link changes. Of this the places of the flags of HEAD_STATUS (log 13), wire index 0 with no unit (log 5), a time since
ACCEPT past 65,535 ms read as 65,535 (log 36), and how long the line state reads STOP (log 10) are the model's choice. -/
def Obligations.HeadDriveAndPromptReports : Prop :=
  ∀ (tag : Byte) (s : State), s.link.Free →
    (∀ h : HeadId,
      exec (.headStatus tag [byte (headNo h)]) s =
        .next
          (s.txChoose.answered
            ⟨0x60, tag,
              let x := s.head h
              [0x00, byte x.state.code, byte (Phase.code x.phase), byte (HeadGate.code x.gate),
                  byte (Reason.codeOpt x.reason),
                  boolByte x.unit.isSome ||| boolByte (s.stu.grant == some h) <<< 1 ||| boolByte x.wantsBand <<< 2 |||
                    boolByte x.restartSpark <<< 3 ||| boolByte x.posOp.isSome <<< 4 ||| boolByte x.wireBreak <<< 5] ++
                (match x.unit with
                  | some u => beBytes 2 u.strip ++ [byte u.row, byte u.col] ++ beBytes 2 x.wireIndex
                  | none => [0, 0, 0, 0, 0, 0]) ++
                [byte x.failCount] ++ beBytes 4 x.nCap ++ beBytes 4 x.spool ++ beBytes 2 x.wireFeed ++
                beBytes 2 (x.lastZc.getD 0) ++ beBytes 2 (x.lastZe.getD 0)⟩)) ∧
    exec (.driveStatus tag []) s =
      .next
        (s.txChoose.answered
          ⟨0x67, tag,
            [0x00, match s.dlc.line with | .free => 0 | .command _ _ => 1 | .poll _ _ => 2 | .stop => 3,
                byte s.dlc.queue.length] ++
              [Drive.posA, .posB, .indexer, .inElevator, .outElevator, .pull, .workHolder].flatMap fun d =>
                let x := s.dlc.drives.get d
                [byte x.stage.code, (x.op.map DriveOp.code).getD 0] ++
                  (if x.stage = .outstanding then
                    beBytes 2 (min ((s.cmc.cellTime + 2 ^ 32 - x.acceptAt) % 2 ^ 32) 65535) ++ beBytes 2 x.timeout
                  else [0, 0, 0, 0]) ++
                  [boolByte x.attention, byte x.lastFault.kind.code, x.lastFault.op, x.lastFault.code]⟩) ∧
    exec (.promptStatus tag []) s =
      .next
        (s.txChoose.answered
          ⟨0x76, tag,
            [0x00, byte s.pnc.prompts.length,
                boolByte s.pnc.sounding ||| boolByte s.pnc.silenced <<< 1 ||| boolByte s.pnc.chirp <<< 2,
                if s.pnc.supervisor then 2 else 1, boolByte s.pnc.locked, byte s.pnc.selection.code,
                match s.pnc.build with | some b => byte b.1 | none => 255, boolByte s.pnc.pendingTiming.isSome,
                boolByte (s.pnc.noteInUse 1) ||| boolByte (s.pnc.noteInUse 2) <<< 1 |||
                  boolByte (s.pnc.noteInUse 3) <<< 2 ||| boolByte (s.pnc.noteInUse 4) <<< 3] ++
              s.pnc.prompts.flatMap fun p =>
                [byte p.kind.code, byte p.source, byte p.severity.code, byte p.arg] ++ beBytes 4 p.time⟩)

/-- TRACK_STATUS, MAGAZINE_STATUS, LOT_STATS, PULL_QUEUE_STATUS and REGION_STATUS (R116, R117, R146, R147, R158): the
bytes of the reply, in every mode; nothing but the link changes. Of this the place of SUM_SATURATED (log 13), the low 32
bits of lot counters that have no bound in State (log 24), and a dwell remaining of 0 past the expiry time (log 36) are
the model's choice. -/
def Obligations.TrackPullAndRegionReports : Prop :=
  ∀ (tag : Byte) (s : State), s.link.Free →
    exec (.trackStatus tag []) s =
      .next
        (s.txChoose.answered
          ⟨0x65, tag,
            0x00 ::
              (([Station.load, .preheat, .bond, .verify, .exit].flatMap fun st =>
                  beBytes 2 (match s.stripAt st with | some r => r.serial | none => 0)) ++
                [byte s.trc.clamp.code, byte (s.trc.seq.code + if s.trc.seqStopped then 128 else 0),
                  boolByte s.trc.stopInput ||| boolByte s.trc.stopSequence <<< 1 ||| boolByte s.trc.stopOutput <<< 2,
                  match s.trc.dwell with | .none => 0 | .running _ => 1 | .done => 2] ++
                beBytes 2
                  (match s.trc.dwell with
                    | .running expiry =>
                      if (expiry + 2 ^ 32 - s.cmc.cellTime) % 2 ^ 32 ≤ 60000 then
                        (expiry + 2 ^ 32 - s.cmc.cellTime) % 2 ^ 32
                      else 0
                    | .none | .done => 0) ++
                [match s.stripAt .bond with | some r => boolByte r.complete | none => 0, boolByte s.trc.pullsDone,
                  boolByte s.trc.handedOver, byte s.trc.heat.code] ++
                beBytes 2 s.trc.lastTemp ++
                [byte (FeedGate.code s.trc.feedGate), boolByte s.trc.push.isSome, boolByte s.trc.store.isSome,
                  byte s.trc.maps.length])⟩) ∧
    exec (.magazineStatus tag [1]) s =
      .next
        (s.txChoose.answered
          ⟨0x66, tag,
            [0x00, byte s.trc.inMag.state.code, byte s.trc.inMag.number, byte s.trc.inMag.count,
                match s.trc.inMag.scanSlot with | some k => byte k | none => 0] ++
              (List.range 64).map fun k =>
                if k < s.trc.inMag.count then byte ((s.trc.inMag.slots[k]?).getD .unknown).code else 0⟩) ∧
    exec (.magazineStatus tag [2]) s =
      .next
        (s.txChoose.answered
          ⟨0x66, tag,
            [0x00, byte s.trc.outMag.state.code, byte s.trc.outMag.number, byte s.trc.outMag.count] ++
              s.trc.outMag.slots.toList.flatMap fun x =>
                match x with
                | .unknown => [0, 0, 0]
                | .empty => [1, 0, 0]
                | .filled serial => 2 :: beBytes 2 serial
                | .jammed => [4, 0, 0]⟩) ∧
    exec (.lotStats tag []) s =
      .next
        (s.txChoose.answered
          ⟨0x69, tag,
            0x00 ::
              (let t := s.psc.stats
               beBytes 4 s.psc.counter ++ beBytes 4 t.count ++ beBytes 4 t.pass ++ beBytes 4 t.fail ++
                beBytes 4 t.noPull ++ beBytes 4 t.sum ++ beBytes 2 t.min ++ beBytes 2 t.max ++
                beBytes 2 (if t.count = 0 then 0 else t.sum / t.count) ++
                [boolByte t.saturated, byte s.psc.queue.length])⟩) ∧
    (∀ k : Nat, 1 ≤ k → k ≤ 32 →
      exec (.pullQueueStatus tag [byte k]) s =
        .next
          (s.txChoose.answered
            ⟨0x6A, tag,
              0x00 ::
                ([byte s.psc.state.code, byte (PullGate.code s.psc.gate)] ++ beBytes 2 (s.psc.strip.getD 0) ++
                  [byte s.psc.listLength, byte s.psc.next, byte s.psc.queue.length,
                    byte (min 16 (s.psc.queue.length - (k - 1)))] ++
                  ((s.psc.queue.drop (k - 1)).take 16).flatMap fun x =>
                    beBytes 4 x.serial ++ beBytes 2 x.strip ++ [byte x.entry.row, byte x.entry.col] ++
                      beBytes 2 x.entry.wire ++ [byte x.entry.origin.code, if x.provisionalFail then 2 else 1] ++
                      beBytes 2 x.force)⟩)) ∧
    (∀ i : RegionId,
      exec (.regionStatus tag [byte i.code]) s =
        .next
          (s.txChoose.answered
            ⟨0x6D, tag,
              0x00 ::
                (let r := s.rm.get i
                 [byte r.first, byte r.last, byte (cellsPerRecord i)] ++
                  beBytes 2 (64 * (r.last + 1 - r.first) / cellsPerRecord i) ++ beBytes 2 r.records.length ++
                  beBytes 2 r.reserved ++ beBytes 2 r.watermark ++ [boolByte r.above ||| boolByte r.waiting <<< 1] ++
                  beBytes 4 r.nextSerial ++ beBytes 4 (match r.records with | [] => 0 | x :: _ => x.serial) ++
                  beBytes 2 r.lost)⟩))

/-! ## Record Memory -/

/-- READ_RECORDS and RELEASE_RECORDS (R156, R157): the oldest records are copied, at most the region's records per reply,
and the region is left as it is; releasing n drops the oldest n, or all of fewer, tells a waiting producer of room (R152),
and leaves serials, bounds, reservations and the other regions alone. SET_REGIONS in SETUP with the track empty, nothing
reserved, and five ranges of blocks that do not meet, with watermarks within their capacities (R159): every region is
empty with its new bounds and watermark and its serials start at 1 again; nothing else changes. -/
def Obligations.RegionsAreReadReleasedAndLaidOut : Prop :=
  (∀ (tag : Byte) (i : RegionId) (s : State), s.link.Free →
    (∀ n : Nat, 1 ≤ n → n ≤ 14 →
      exec (.readRecords tag [byte i.code, byte n]) s =
        .next
          (s.txChoose.answered
            ⟨0x6E, tag,
              let rs := (s.rm.get i).records.take (min n (match i with | .bondA | .bondB => 4 | .pull => 7 | .strip => 1 | .event => 14))
              0x00 :: byte i.code :: byte rs.length :: rs.flatMap Record.bytes⟩)) ∧
    (∀ n : Nat, n < 65536 → ∃ t : State,
      exec (.releaseRecords tag (byte i.code :: beBytes 2 n)) s = .next t ∧
        t.Answers
          ⟨0x6F, tag,
            0x00 :: (beBytes 2 (min n (s.rm.get i).records.length) ++
              beBytes 4 (match (s.rm.get i).records.drop n with | [] => 0 | x :: _ => x.serial))⟩ ∧
        (t.rm.get i).records = (s.rm.get i).records.drop n ∧ (t.rm.get i).nextSerial = (s.rm.get i).nextSerial ∧
        (t.rm.get i).first = (s.rm.get i).first ∧ (t.rm.get i).last = (s.rm.get i).last ∧
        (t.rm.get i).reserved = (s.rm.get i).reserved ∧ (t.rm.get i).watermark = (s.rm.get i).watermark ∧
        (t.rm.get i).lost = (s.rm.get i).lost ∧
        (1 ≤ n → 1 ≤ (s.rm.get i).records.length → (t.rm.get i).waiting = false) ∧
        (∀ j : RegionId, j ≠ i → t.rm.get j = s.rm.get j) ∧ t.cmc.mode = s.cmc.mode ∧ t.cmc.hold = s.cmc.hold ∧
        t.cmc.lot = s.cmc.lot ∧ t.rs = s.rs ∧ t.stu = s.stu ∧ t.dlc = s.dlc ∧ t.pnc = s.pnc ∧ t.pending = s.pending)) ∧
  ∀ (tag : Byte) (first last mark : RegionId → Nat) (s : State), s.link.Free → s.cmc.mode = .setup → s.trackEmpty = true →
    (∀ i : RegionId, (s.rm.get i).reserved = 0 ∧ first i ≤ last i ∧ last i ≤ 63 ∧
      mark i ≤ 64 * (last i + 1 - first i) / cellsPerRecord i) →
    (∀ i j : RegionId, i ≠ j → last i < first j ∨ last j < first i) →
    exec
        (.setRegions tag
          ([RegionId.bondA, .bondB, .pull, .strip, .event].flatMap fun i =>
            [byte (first i), byte (last i)] ++ beBytes 2 (mark i))) s =
      .next
        ((s.txChoose.setRm
            { bondA := .empty (first .bondA) (last .bondA) (mark .bondA)
              bondB := .empty (first .bondB) (last .bondB) (mark .bondB)
              pull := .empty (first .pull) (last .pull) (mark .pull)
              strip := .empty (first .strip) (last .strip) (mark .strip)
              event := .empty (first .event) (last .event) (mark .event) }).answered
          ⟨0x6C, tag, [0x00]⟩)

/-! ## The panel's requests -/

/-- SET_PANEL_TIMING, SHOW_SCREEN, SHOW_PATTERN and SET_TONE (R163, R169, R170, R177): the timing waits for the next
frame, a loaded slot or a pattern is selected, a pattern remembering the view under it, the tone's half-period is kept,
and nothing else changes; a slot that is not loaded is refused. -/
def Obligations.PanelRequestsSetThePanel : Prop :=
  ∀ (tag : Byte) (s : State), s.link.Free →
    (∀ t : Timing, 320 ≤ t.hActive → t.hActive ≤ 1280 → 1 ≤ t.hSync → t.hSync ≤ 255 → 1 ≤ t.hBack → t.hBack ≤ 1023 →
      1 ≤ t.hFront → t.hFront ≤ 1023 → 240 ≤ t.vActive → t.vActive ≤ 800 → 1 ≤ t.vSync → t.vSync ≤ 255 →
      1 ≤ t.vBack → t.vBack ≤ 1023 → 1 ≤ t.vFront → t.vFront ≤ 1023 → t.polarity ≤ 3 → t.rate ≤ 3 →
      exec
          (.setPanelTiming tag
            (beBytes 2 t.hActive ++ beBytes 2 t.hSync ++ beBytes 2 t.hBack ++ beBytes 2 t.hFront ++
              beBytes 2 t.vActive ++ beBytes 2 t.vSync ++ beBytes 2 t.vBack ++ beBytes 2 t.vFront ++
              [byte t.polarity, byte t.rate])) s =
        .next ((s.txChoose.setPnc { s.pnc with pendingTiming := some t }).answered ⟨0x70, tag, [0x00]⟩)) ∧
    (∀ n : Fin 8,
      exec (.showScreen tag [byte n.val]) s =
        .next
          (if n.val = 0 ∨ s.pnc.slots[n.val].isSome = true then
            (s.txChoose.setPnc { s.pnc with selection := .view (.slot n.val), lastSlot := n.val }).answered
              ⟨0x72, tag, [0x00]⟩
          else s.txChoose.answered ⟨0x72, tag, [0x06, 0x00]⟩)) ∧
    (∀ (k : Byte) (q : Pattern), (k, q) ∈ [((1 : Byte), Pattern.bars), (2, .grid), (3, .flat)] →
      exec (.showPattern tag [k]) s =
        .next
          ((s.txChoose.setPnc
              { s.pnc with
                selection := .pattern q (match s.pnc.selection with | .view v => v | .pattern _ v => v) }).answered
            ⟨0x73, tag, [0x00]⟩)) ∧
    (∀ h : Nat, 125 ≤ h → h ≤ 2000 →
      exec (.setTone tag (beBytes 2 h)) s =
        .next ((s.txChoose.setPnc { s.pnc with h := h }).answered ⟨0x77, tag, [0x00]⟩))

/-- LOAD_SCREEN part by part (R167, R168): BEGIN opens an empty build and drops an open one, TEXT writes its characters
from its cell on, FIELDS appends its fields, and COMMIT puts the build in its slot and closes it; nothing else changes. -/
def Obligations.LoadScreenBuildsATemplate : Prop :=
  ∀ (tag : Byte) (n : Fin 8) (s : State), s.link.Free →
    (∀ flag : Bool,
      exec (.loadScreenBegin tag [byte n.val, boolByte flag]) s =
        .next
          ((s.txChoose.setPnc
              { s.pnc with
                build := some (n.val, { keysToHost := flag, cells := Vector.replicate 2400 0x20, fields := [] }) }).answered
            ⟨0x71, tag, [0x00]⟩)) ∧
    (∀ t : Template, s.pnc.build = some (n.val, t) →
      (∀ (row col : Nat) (text : List Byte), 1 ≤ row → row ≤ 30 → 1 ≤ col → 1 ≤ text.length →
        col + text.length - 1 ≤ 80 → (∀ c ∈ text, 0x20 ≤ c.toNat ∧ c.toNat ≤ 0x7E) →
        ∃ cells : Vector Byte 2400,
          exec (.loadScreenText tag ([byte n.val, byte row, byte col] ++ text)) s =
              .next
                ((s.txChoose.setPnc { s.pnc with build := some (n.val, { t with cells := cells }) }).answered
                  ⟨0x71, tag, [0x00]⟩) ∧
            ∀ (k : Nat) (h : k < 2400),
              cells[k] =
                if (row - 1) * 80 + (col - 1) ≤ k then (text[k - ((row - 1) * 80 + (col - 1))]?).getD t.cells[k]
                else t.cells[k]) ∧
      (∀ fs : List ScreenField, 1 ≤ fs.length → fs.length ≤ 24 → t.fields.length + fs.length ≤ 48 →
        (∀ f ∈ fs, 1 ≤ f.row ∧ f.row ≤ 30 ∧ 1 ≤ f.col ∧ 1 ≤ f.width ∧ f.width ≤ 20 ∧ f.col + f.width - 1 ≤ 80 ∧
          (formatsOf f.var).contains f.format = true) →
        exec
            (.loadScreenFields tag
              ([byte n.val, byte fs.length] ++ fs.flatMap fun f =>
                [byte f.row, byte f.col, byte f.width] ++ beBytes 2 f.var ++ [byte f.format])) s =
          .next
            ((s.txChoose.setPnc
                { s.pnc with build := some (n.val, { t with fields := t.fields ++ fs }) }).answered
              ⟨0x71, tag, [0x00]⟩)) ∧
      exec (.loadScreenCommit tag [byte n.val]) s =
        .next
          ((s.txChoose.setPnc { s.pnc with slots := s.pnc.slots.set n.val (some t), build := none }).answered
            ⟨0x71, tag, [0x00]⟩))

/-- RAISE_PROMPT and WITHDRAW_PROMPT (R174): a note takes the lowest free of the four numbers, joins the queue once with
its severity and text, and its number is the reply; withdrawing a note in use removes exactly it. Nothing but the panel,
the notice's condition and the link changes. -/
def Obligations.HostNotesAreRaisedAndWithdrawn : Prop :=
  ∀ (tag : Byte) (s : State), s.link.Free →
    (∀ (code : Byte) (v : Severity) (text : List Byte) (k : Nat),
      (code, v) ∈ [((1 : Byte), Severity.alarm), (2, .action), (3, .info)] → text.length ≤ 60 →
      (∀ c ∈ text, 0x20 ≤ c.toNat ∧ c.toNat ≤ 0x7E) → 1 ≤ k → k ≤ 4 → s.pnc.noteInUse k = false →
      (∀ j, 1 ≤ j → j < k → s.pnc.noteInUse j = true) →
      ∃ t : State, exec (.raisePrompt tag (code :: byte text.length :: text)) s = .next t ∧
        t.Answers ⟨0x74, tag, [0x00, byte k]⟩ ∧ t.pnc.noteInUse k = true ∧
        (∀ p, p ∈ t.pnc.prompts ↔
          p ∈ s.pnc.prompts ∨
            p = { kind := .hostNote, source := k, severity := v, arg := 0, raiseNo := s.pnc.nextRaise,
                  time := s.cmc.cellTime, text := text }) ∧
        t.pnc.prompts.length = s.pnc.prompts.length + 1 ∧ t.cmc = { s.cmc with conditions := t.cmc.conditions } ∧
        t.rs = s.rs ∧ t.heads = s.heads ∧ t.stu = s.stu ∧ t.trc = s.trc ∧ t.dlc = s.dlc ∧ t.psc = s.psc ∧ t.rm = s.rm ∧
        t.pnc.slots = s.pnc.slots ∧ t.pending = s.pending) ∧
    (∀ k : Nat, 1 ≤ k → k ≤ 4 →
      (s.pnc.noteInUse k = true →
        ∃ t : State, exec (.withdrawPrompt tag [byte k]) s = .next t ∧ t.Answers ⟨0x75, tag, [0x00]⟩ ∧
          t.pnc.prompts = s.pnc.prompts.filter (fun p => !(p.kind == .hostNote && p.source == k)) ∧
          t.cmc = { s.cmc with conditions := t.cmc.conditions } ∧ t.rs = s.rs ∧ t.heads = s.heads ∧ t.stu = s.stu ∧
          t.trc = s.trc ∧ t.dlc = s.dlc ∧ t.psc = s.psc ∧ t.rm = s.rm ∧ t.pnc.slots = s.pnc.slots ∧
          t.pending = s.pending) ∧
      (s.pnc.noteInUse k = false →
        exec (.withdrawPrompt tag [byte k]) s = .next (s.txChoose.answered ⟨0x75, tag, [0x06, 0x00]⟩)))

/-! ## Requests of the heads, the track and the pull station -/

/-- RESUME_HEAD of a suspended head whose wire is whole and whose positioner has nothing outstanding (R44, R93): the
reason is cleared with its effect, the HEAD_STOP prompt is gone, a head that holds a unit is READY with it, and the other
head, the lot, the hold, the mode, the track, the drives and the pull station stay. -/
def Obligations.ResumeHeadClearsTheReason : Prop :=
  ∀ (tag : Byte) (h g : HeadId) (why : Reason) (s : State), s.link.Free → h ≠ g → (s.head h).state = .suspended →
    (s.head h).reason = some why → (s.head h).wireBreak = false → (s.head h).posOp = none →
    ∃ t : State, exec (.resumeHead tag [byte (headNo h)]) s = .next t ∧ t.Answers ⟨0x61, tag, [0x00]⟩ ∧
      (t.head h).state ≠ .suspended ∧ (t.head h).reason = none ∧ t.pnc.findPrompt .headStop (headNo h) = none ∧
      (t.head h).nCap = (if why = .capLife then 0 else (s.head h).nCap) ∧
      (t.head h).spool = (if why = .spoolEmpty then (s.config h).spoolSize * 100000 else (s.head h).spool) ∧
      (t.head h).failCount = (if why = .liftLimit then 0 else (s.head h).failCount) ∧
      (t.head h).restartSpark = (s.head h).restartSpark ∧
      (∀ u, (s.head h).unit = some u → (t.head h).unit = some u ∧ (t.head h).state = .ready) ∧
      t.head g = s.head g ∧ t.cmc.mode = s.cmc.mode ∧ t.cmc.hold = s.cmc.hold ∧ t.cmc.lot = s.cmc.lot ∧ t.rs = s.rs ∧
      t.trc = s.trc ∧ t.dlc = s.dlc ∧ t.psc = s.psc ∧ t.pending = s.pending

/-- SET_CAPILLARY_COUNT, LOAD_SPOOL and FEED_PULSE (R82, R85, R86, R88, R90): the count or the spool takes its new value,
its warning stays armed exactly while the level is not reached, the two requests write their event, a pulse is counted
into the wire of an ACTIVE head, and nothing else of the head, no other head and nothing of the track, the drives, the
pull station or the recipe changes. -/
def Obligations.ConsumablesAreCountedAndWarned : Prop :=
  ∀ (tag : Byte) (h g : HeadId) (s : State), h ≠ g →
    (∀ n : Nat, s.link.Free → n ≤ 4000000 → (s.head h).state ≠ .active →
      ∃ t : State, exec (.setCapillaryCount tag (byte (headNo h) :: beBytes 4 n)) s = .next t ∧
        t.Answers ⟨0x62, tag, [0x00]⟩ ∧
        t.head h = { s.head h with nCap := n, capArmed := decide (n < (s.config h).life * 95 / 100) } ∧
        (∃ lost, t.rm.event.records.getLast? =
          some (.event ⟨s.rm.event.nextSerial, s.cmc.cellTime, .capChanged, sourceHead h, n, lost⟩)) ∧
        t.rm.bondA = s.rm.bondA ∧ t.rm.bondB = s.rm.bondB ∧ t.rm.pull = s.rm.pull ∧ t.rm.strip = s.rm.strip ∧
        t.head g = s.head g ∧ t.cmc.mode = s.cmc.mode ∧ t.cmc.hold = s.cmc.hold ∧ t.rs = s.rs ∧ t.stu = s.stu ∧
        t.trc = s.trc ∧ t.dlc = s.dlc ∧ t.psc = s.psc ∧ t.pending = s.pending) ∧
    (s.link.Free → (s.head h).state ≠ .active →
      ∃ t : State, exec (.loadSpool tag [byte (headNo h)]) s = .next t ∧ t.Answers ⟨0x63, tag, [0x00]⟩ ∧
        t.head h =
          { s.head h with
            spool := (s.config h).spoolSize * 100000
            spoolArmed := decide ((s.config h).spoolLow ≤ (s.config h).spoolSize) } ∧
        (∃ lost, t.rm.event.records.getLast? =
          some
            (.event
              ⟨s.rm.event.nextSerial, s.cmc.cellTime, .spoolLoaded, sourceHead h, (s.config h).spoolSize * 100000,
                lost⟩)) ∧
        t.rm.bondA = s.rm.bondA ∧ t.rm.bondB = s.rm.bondB ∧ t.rm.pull = s.rm.pull ∧ t.rm.strip = s.rm.strip ∧
        t.head g = s.head g ∧ t.cmc.mode = s.cmc.mode ∧ t.cmc.hold = s.cmc.hold ∧ t.rs = s.rs ∧ t.stu = s.stu ∧
        t.trc = s.trc ∧ t.dlc = s.dlc ∧ t.psc = s.psc ∧ t.pending = s.pending) ∧
    (∃ t : State, exec (.feedPulse h) s = .next t ∧
      t.head h =
        { s.head h with
          spool := (s.head h).spool - 1
          wireFeed := if (s.head h).state = .active then min 65535 ((s.head h).wireFeed + 1) else (s.head h).wireFeed
          spoolArmed := (s.head h).spoolArmed && decide ((s.config h).spoolLow * 100000 ≤ (s.head h).spool - 1) } ∧
      t.head g = s.head g ∧ t.cmc.mode = s.cmc.mode ∧ t.cmc.hold = s.cmc.hold ∧ t.rs = s.rs ∧ t.stu = s.stu ∧
      t.trc = s.trc ∧ t.dlc = s.dlc ∧ t.psc = s.psc ∧ t.rm = s.rm ∧ t.pending = s.pending)

/-- STRIP_MAP (R103): an entry of the same magazine and slot is replaced in its place, another joins the end while the
queue has fewer than 8; bit j of byte k is unit index 8k + j. Nothing else changes; a full queue and a slot already fed
are refused. -/
def Obligations.StripMapsAreQueued : Prop :=
  ∀ (tag : Byte) (mag slot : Nat) (bits : List Byte) (s : State), s.link.Free → 1 ≤ mag → mag ≤ 255 → 1 ≤ slot →
    slot ≤ 64 → bits.length = 24 →
    (¬(mag = s.trc.inMag.number ∧ (s.trc.inMag.state = .absent ∨ s.trc.inMag.slot slot = .taken)) →
      ∃ bad : BitVec 192, (∀ i < 192, bad.getLsbD i = ((bits[i / 8]?).getD 0).getLsbD (i % 8)) ∧
        ((∃ e ∈ s.trc.maps, e.mag = mag ∧ e.slot = slot) →
          exec (.stripMap tag ([byte mag, byte slot] ++ bits)) s =
            .next
              ((s.txChoose.setTrc
                  { s.trc with
                    maps := s.trc.maps.map fun e => if e.mag = mag ∧ e.slot = slot then ⟨mag, slot, bad⟩ else e }).answered
                ⟨0x64, tag, [0x00]⟩)) ∧
        ((∀ e ∈ s.trc.maps, ¬(e.mag = mag ∧ e.slot = slot)) →
          exec (.stripMap tag ([byte mag, byte slot] ++ bits)) s =
            .next
              (if s.trc.maps.length < 8 then
                (s.txChoose.setTrc { s.trc with maps := s.trc.maps ++ [⟨mag, slot, bad⟩] }).answered ⟨0x64, tag, [0x00]⟩
              else s.txChoose.answered ⟨0x64, tag, [0x0A, 0x00]⟩))) ∧
    (mag = s.trc.inMag.number ∧ (s.trc.inMag.state = .absent ∨ s.trc.inMag.slot slot = .taken) →
      exec (.stripMap tag ([byte mag, byte slot] ++ bits)) s = .next (s.txChoose.answered ⟨0x64, tag, [0x06, 0x00]⟩))

/-- CLASSIFY of a staged pull (R141, R142, R145, R186): its record is committed to PULL with the verdict the plan in force
gives, it leaves the queue, the statistics count it, and a FAIL sets a clear hold, which takes a cell in RUN to DRAIN. The
recipe, the bond regions and the screens stay. -/
def Obligations.ClassifyCommitsThePull : Prop :=
  ∀ (tag : Byte) (serial mode : Nat) (x : Staged) (s : State), s.link.Free → serial < 2 ^ 32 → 1 ≤ mode → mode ≤ 5 →
    s.psc.queue.find? (fun p => p.serial == serial) = some x →
    ∃ (t : State) (pass : Bool),
      (pass = true ↔ s.rs.plan.fMin ≤ x.force ∧ s.rs.plan.accept.getLsbD (mode - 1) = true) ∧
      exec (.classify tag (beBytes 4 serial ++ [byte mode])) s = .next t ∧
      t.Answers ⟨0x68, tag, 0x00 :: (if pass then 1 else 2) :: beBytes 4 s.rm.pull.nextSerial⟩ ∧
      t.rm.pull.records =
        s.rm.pull.records ++
          [.pull
            { serial := s.rm.pull.nextSerial, strip := x.strip, entry := x.entry, mode := mode,
              verdict := if pass then .pass else .fail, classifier := .host, force := x.force,
              breakHeight := x.breakHeight, pullTime := x.time, classifyTime := s.cmc.cellTime,
              lotNumber := min x.serial 65535 }] ∧
      t.rm.pull.reserved = s.rm.pull.reserved - 1 ∧
      t.psc.queue = s.psc.queue.filter (fun p => p.serial != serial) ∧ t.psc.stats.count = s.psc.stats.count + 1 ∧
      t.psc.stats.pass = (if pass then s.psc.stats.pass + 1 else s.psc.stats.pass) ∧
      t.psc.stats.fail = (if pass then s.psc.stats.fail else s.psc.stats.fail + 1) ∧
      t.psc.stats.sum = min 4294967295 (s.psc.stats.sum + x.force) ∧
      t.cmc.hold = (if pass then s.cmc.hold else some (s.cmc.hold.getD (.pull x.serial))) ∧
      t.cmc.mode = (if pass = false ∧ s.cmc.hold = none ∧ s.cmc.mode = .run then .drain else s.cmc.mode) ∧
      t.rs = s.rs ∧ t.rm.bondA = s.rm.bondA ∧ t.rm.bondB = s.rm.bondB ∧ t.pnc.slots = s.pnc.slots ∧
      t.pending = s.pending

/-! ## The panel -/

/-- FRAME_START (R143, R164, R165, R166, R167, R168, R169, R170): a pending timing becomes the timing, a new rate class
sets PANEL_UNLOCKED, the CLASSIFY view latches the oldest pull and shows it with the queue count and the modes of F1 to
F5. The frame has a column per 10 active pixels and a row per 20 active lines. A slot with a template shows, above the
prompt area, the template's characters, blank outside its 30 rows of 80 columns, under its fields, each variable in its
format, the later field on top; slot 0 without one shows the built-in status screen (whose layout of text is not given,
log 15). Both rows of the prompt area are as wide as the frame, blank with no prompt; else the first shows the top
prompt's severity, kind and source, then a HOST_NOTE's text or any other prompt's argument, clipped, and the second the
numbers of further prompts. Which characters show anything but the text is free (log 37). A pattern covers all of it:
eight bars of equal whole width, one-pixel lines along an edge of every text cell, or every pixel at full level. Which
edge, and what bars of whole width leave over, are free; that GRID's lines are at full level on dark is the model's choice
(log 38). Everything but the panel, the conditions and the link stays. -/
def Obligations.FrameStartTakesTheTiming : Prop :=
  ∀ s : State, ∃ t : State, exec .frameStart s = .next t ∧
    t.pnc.timing = s.pnc.pendingTiming.getD s.pnc.timing ∧ t.pnc.pendingTiming = none ∧
    (∀ n, s.pnc.pendingTiming = some n → n.rate ≠ s.pnc.timing.rate → t.cmc.conditions.getLsbD 18 = true) ∧
    t.pnc.latched = (if s.pnc.selection = .view .classify then s.psc.queue.head?.map (·.serial) else none) ∧
    (∃ f, t.pnc.frame = some f ∧ f.columns = t.pnc.timing.hActive / 10 ∧ f.rows = t.pnc.timing.vActive / 20 ∧
      (∀ p v, s.pnc.selection = .pattern p v → f.prompts = none ∧
        ∃ image, f.picture = .pattern t.pnc.timing.hActive t.pnc.timing.vActive image ∧
          ∀ x y : Nat, x < t.pnc.timing.hActive → y < t.pnc.timing.vActive →
            (p = .bars → x < 8 * (t.pnc.timing.hActive / 8) →
              image.pixel x y = .bar (x / (t.pnc.timing.hActive / 8) + 1)) ∧
            (p = .grid →
              (Config.gridColumn = 0 ∨ Config.gridColumn = 9) ∧ (Config.gridLine = 0 ∨ Config.gridLine = 19) ∧
                image.pixel x y = if x % 10 = Config.gridColumn ∨ y % 20 = Config.gridLine then .full else .dark) ∧
            (p = .flat → image.pixel x y = .full)) ∧
      (∀ v, s.pnc.selection = .view v → ∃ a, f.prompts = some a ∧ a.top = s.pnc.prompts.head? ∧
        a.first.length = f.columns ∧ a.second.length = f.columns ∧
        (s.pnc.prompts = [] →
          a.first = List.replicate f.columns (.char 0x20) ∧ a.second = List.replicate f.columns (.char 0x20)) ∧
        (∀ q qs, s.pnc.prompts = q :: qs →
          a.first =
              displayRow f.columns
                (Config.promptLead q.severity.code q.kind.code q.source ++
                  if q.kind = .hostNote then q.text else Config.promptArgument q.arg) ∧
            a.second =
              displayRow f.columns
                (Config.promptCounts (qs.filter fun p => p.severity == .alarm).length
                  (qs.filter fun p => p.severity == .action).length (qs.filter fun p => p.severity == .info).length))) ∧
      (∀ n, s.pnc.selection = .view (.slot n) →
        ((s.pnc.slots[n]?).bind id = none →
          f.picture =
            .status
              { mode := s.cmc.mode, lot := s.cmc.lot, lotId := s.cmc.lotId, hold := s.cmc.hold
                heads :=
                  ⟨⟨(s.head .a).state, (s.head .a).gate, (s.head .a).reason, (s.head .a).nCap⟩,
                    ⟨(s.head .b).state, (s.head .b).gate, (s.head .b).reason, (s.head .b).nCap⟩⟩
                stations :=
                  [s.serialAt .load, s.serialAt .preheat, s.serialAt .bond, s.serialAt .verify, s.serialAt .exit]
                heat := s.trc.heat, classifyCount := s.psc.queue.length, supervisor := s.pnc.supervisor }) ∧
        ∀ tm : Template, s.pnc.slots[n]? = some (some tm) →
          ∃ cells : List (List DisplayCell), f.picture = .screen cells ∧ cells.length = f.rows - 2 ∧
            (∀ row ∈ cells, row.length = f.columns) ∧
            ∀ y x : Nat, 1 ≤ y → y ≤ f.rows - 2 → 1 ≤ x → x ≤ f.columns →
              ((∀ b ∈ tm.fields, ¬(b.row = y ∧ b.col ≤ x ∧ x < b.col + b.width)) →
                (cells[y - 1]?).bind (·[x - 1]?) =
                  some
                    (.char
                      (if y ≤ 30 ∧ x ≤ 80 then (tm.cells[(y - 1) * 80 + (x - 1)]?).getD 0x20 else 0x20))) ∧
              ∀ (before later : List ScreenField) (b : ScreenField), tm.fields = before ++ b :: later →
                b.row = y ∧ b.col ≤ x ∧ x < b.col + b.width → b.width ≤ 20 →
                (∀ c ∈ later, ¬(c.row = y ∧ c.col ≤ x ∧ x < c.col + c.width)) →
                let value : Nat :=
                  match b.var with
                  | 1 => s.cmc.mode.code
                  | 2 => s.cmc.lot.code
                  | 3 => s.cmc.lotId
                  | 4 => if s.cmc.hold.isSome then 1 else 0
                  | 5 => (s.head .a).state.code
                  | 6 => (s.head .b).state.code
                  | 7 => (s.head .a).nCap
                  | 8 => (s.head .b).nCap
                  | 9 => (s.head .a).spool / 100000
                  | 10 => (s.head .b).spool / 100000
                  | 11 => s.serialAt .bond
                  | 12 => s.trc.lastTemp
                  | 13 => s.trc.heat.code
                  | 14 => s.psc.queue.length
                  | 15 => s.psc.stats.pass
                  | 16 => s.psc.stats.fail
                  | 17 => s.rm.bondA.records.length
                  | 18 => s.rm.bondB.records.length
                  | 19 => s.cmc.cellTime / 1000
                  | 20 => s.pnc.prompts.length
                  | _ => 0
                let name : List Char :=
                  match b.var with
                  | 1 => s.cmc.mode.name
                  | 2 => s.cmc.lot.name
                  | 4 => if s.cmc.hold.isSome then ['S', 'E', 'T'] else ['C', 'L', 'E', 'A', 'R']
                  | 5 => (s.head .a).state.name
                  | 6 => (s.head .b).state.name
                  | 13 => s.trc.heat.name
                  | _ => []
                let scale : Nat :=
                  match b.var with
                  | 7 => (s.config .a).life
                  | 8 => (s.config .b).life
                  | 9 => (s.config .a).spoolSize
                  | 10 => (s.config .b).spoolSize
                  | 14 => 32
                  | 17 => s.rm.bondA.capacity .bondA
                  | 18 => s.rm.bondB.capacity .bondB
                  | 20 => 19
                  | _ => 0
                (cells[y - 1]?).bind (·[x - 1]?) = some (fieldCellAt b value name scale (x - b.col))) ∧
      (s.pnc.selection = .view .classify →
        ∃ keys, f.picture = .classify s.psc.queue.head? s.psc.queue.length keys ∧
          keys.map (fun k => (k.key, k.mode)) = [(1, 1), (2, 2), (3, 3), (4, 4), (5, 5)])) ∧
    t.pnc.selection = s.pnc.selection ∧ t.pnc.prompts = s.pnc.prompts ∧ t.pnc.slots = s.pnc.slots ∧
    t.cmc = { s.cmc with conditions := t.cmc.conditions } ∧ t.rs = s.rs ∧ t.heads = s.heads ∧ t.stu = s.stu ∧
    t.trc = s.trc ∧ t.dlc = s.dlc ∧ t.psc = s.psc ∧ t.rm = s.rm ∧ t.pending = s.pending

/-- Every key pressed while a pattern is shown ends the pattern, returns to the view under it, and does nothing else
(R170, R176). The page keys, PULL, SILENCE and the tone's timers in a view (R169, R177): the page keys go to the nearest
loaded slot above or below the last one shown, round the ends, slot 0 always counting as loaded; PULL shows CLASSIFY;
SILENCE and the end of a chirp stop their share of the tone; a toggle changes the level for one more half-period, and an
expiry of a timer that does not run settles nothing (the model's choice, log 4). Nothing else changes. -/
def Obligations.PanelKeysActOnTheSelection : Prop :=
  (∀ (c : Instr) (p : Pattern) (v : View) (s : State), s.pnc.selection = .pattern p v →
    (c = .pageNext ∨ c = .pagePrev ∨ c = .pullKey ∨ c = .ack ∨ c = .silence ∨ ∃ k, c = .fKey k) →
    exec c s = .next (s.setPnc { s.pnc with selection := .view v }).txChoose) ∧
  ∀ (v : View) (s : State), s.pnc.selection = .view v → s.pnc.lastSlot < 8 →
    (∃ j : Nat, 1 ≤ j ∧ j ≤ 8 ∧
      ((s.pnc.lastSlot + j) % 8 = 0 ∨ ((s.pnc.slots[(s.pnc.lastSlot + j) % 8]?).getD none).isSome = true) ∧
      (∀ i : Nat, 1 ≤ i → i < j →
        (s.pnc.lastSlot + i) % 8 ≠ 0 ∧ ((s.pnc.slots[(s.pnc.lastSlot + i) % 8]?).getD none).isSome = false) ∧
      exec .pageNext s =
        .next
          (s.setPnc
            { s.pnc with
              selection := .view (.slot ((s.pnc.lastSlot + j) % 8)), lastSlot := (s.pnc.lastSlot + j) % 8 }).txChoose) ∧
    (∃ j : Nat, 1 ≤ j ∧ j ≤ 8 ∧
      ((s.pnc.lastSlot + 8 - j) % 8 = 0 ∨ ((s.pnc.slots[(s.pnc.lastSlot + 8 - j) % 8]?).getD none).isSome = true) ∧
      (∀ i : Nat, 1 ≤ i → i < j →
        (s.pnc.lastSlot + 8 - i) % 8 ≠ 0 ∧ ((s.pnc.slots[(s.pnc.lastSlot + 8 - i) % 8]?).getD none).isSome = false) ∧
      exec .pagePrev s =
        .next
          (s.setPnc
            { s.pnc with
              selection := .view (.slot ((s.pnc.lastSlot + 8 - j) % 8)), lastSlot := (s.pnc.lastSlot + 8 - j) % 8 }).txChoose) ∧
    exec .pullKey s = .next (s.setPnc { s.pnc with selection := .view .classify }).txChoose ∧
    exec .silence s =
      .next
        (s.setPnc
          (if s.pnc.chirp then { s.pnc with silenced := true, toneTimer := some (s.pnc.toneTimer.getD s.pnc.h),
                                            toneHigh := s.pnc.toneTimer.isSome && s.pnc.toneHigh }
           else { s.pnc with silenced := true, toneTimer := none, toneHigh := false })).txChoose ∧
    exec .chirpTimerExpiry s =
      .next
        (s.setPnc
          (if s.pnc.alarmPresent && !s.pnc.silenced then
            { s.pnc with chirp := false, toneTimer := some (s.pnc.toneTimer.getD s.pnc.h),
                         toneHigh := s.pnc.toneTimer.isSome && s.pnc.toneHigh }
           else { s.pnc with chirp := false, toneTimer := none, toneHigh := false })).txChoose ∧
    exec .toneToggle s =
      .next
        (s.setPnc
          (if s.pnc.toneTimer.isSome then { s.pnc with toneTimer := some s.pnc.h, toneHigh := !s.pnc.toneHigh }
           else s.pnc)).txChoose

/-- ACK in a view (R44, R98, R110, R138, R173, R187, R188): with no prompt, or a top prompt only its raiser removes, a
chirp; else the top prompt's raiser takes it, and the prompt is gone. TRACK_CHECK sets the flag, QUALITY_HOLD with the
keyswitch at SUPERVISOR clears the hold, HEAD_STOP resumes the head, DRIVE_STOP lets the pull station go on, or empties
the stopped set: for INPUT a present magazine is scanned again but for its TAKEN slots, from the lowest on, at once or
after the elevator's operation still outstanding, and in HALT a rescan is wanted; for SEQUENCE the stopped step is issued
again; what is not in the set stays. That a rescan with every slot TAKEN ends at once as EXHAUSTED is the model's choice
(log 29), that INPUT is dealt with before SEQUENCE, so that the step's operation is last in the drive queue, is log 49,
and that OUTPUT's store is tested again by the command STORE is log 1. The mode, the lot id, the recipe and the screens
stay. -/
def Obligations.AckIsTakenByTheRaiser : Prop :=
  ∀ (v : View) (s : State), s.pnc.selection = .view v →
    (s.pnc.prompts = [] → exec .ack s = .next s.chirp.txChoose) ∧
    ∀ (p : Prompt) (ps : List Prompt), s.pnc.prompts = p :: ps →
      (p.kind = .haltActive ∨ p.kind = .inputChange ∨ p.kind = .outputChange ∨ p.kind = .tempOut ∨
          p.kind = .classifyPending ∨ (p.kind = .qualityHold ∧ s.pnc.supervisor = false) →
        exec .ack s = .next s.chirp.txChoose) ∧
      (p.kind = .trackCheck ∨ (p.kind = .qualityHold ∧ p.source = 0 ∧ s.pnc.supervisor = true ∧ s.cmc.hold.isSome = true) ∨
          p.kind = .capWarning ∨ p.kind = .spoolLow ∨ p.kind = .hostNote ∨
          (p.kind = .driveStop ∧ (p.source = 3 ∨ p.source = 4)) ∨
          (p.kind = .headStop ∧ ∃ h, p.source = headNo h ∧ (s.head h).state = .suspended ∧
            (s.head h).reason.isSome = true ∧ (s.head h).wireBreak = false ∧ (s.head h).posOp = none) →
        ∃ t : State, exec .ack s = .next t ∧ t.pnc.findPrompt p.kind p.source = none ∧
          t.cmc.trackCheck = (s.cmc.trackCheck || p.kind == .trackCheck) ∧
          t.cmc.hold = (if p.kind = .qualityHold then none else s.cmc.hold) ∧
          (p.kind = .driveStop → p.source = 3 →
            t.trc.stopInput = false ∧ t.trc.stopSequence = false ∧ t.trc.stopOutput = false ∧
              t.trc.driveStopRaised = false ∧ t.trc.store = s.trc.store ∧ t.trc.outMag = s.trc.outMag ∧
              (s.trc.stopInput = false → t.trc.inMag = s.trc.inMag ∧ t.trc.rescanWanted = s.trc.rescanWanted) ∧
              (s.trc.stopInput = true → s.cmc.mode = .halt →
                t.trc.inMag = s.trc.inMag ∧ t.trc.rescanWanted = true) ∧
              (s.trc.stopInput = true → s.cmc.mode ≠ .halt → s.trc.inMag.state = .absent →
                t.trc.inMag = s.trc.inMag ∧ t.trc.rescanWanted = s.trc.rescanWanted) ∧
              (s.trc.stopInput = true → s.cmc.mode ≠ .halt → s.trc.inMag.state ≠ .absent →
                t.trc.rescanWanted = s.trc.rescanWanted ∧
                  (∀ i < 64,
                    t.trc.inMag.slots[i]? =
                      (s.trc.inMag.slots[i]?).map fun x => if x = .taken then .taken else .unknown) ∧
                  (∀ j : Nat, 1 ≤ j → j ≤ s.trc.inMag.count → s.trc.inMag.slot j ≠ .taken →
                    (∀ i : Nat, 1 ≤ i → i < j → s.trc.inMag.slot i = .taken) →
                    t.trc.inMag.state = .scanning ∧ t.trc.inMag.scanSlot = some j ∧
                      (s.trc.inOp = none →
                        t.trc.inOp = some .scan ∧ .inElevator ∈ t.dlc.queue ∧
                          t.dlc.drives.inElevator.stage = .queued ∧ t.dlc.drives.inElevator.op = some (.scan j)) ∧
                      (s.trc.inOp.isSome = true →
                        t.trc.scanHeld = true ∧ t.dlc.drives.inElevator = s.dlc.drives.inElevator)) ∧
                  ((∀ i : Nat, 1 ≤ i → i ≤ s.trc.inMag.count → s.trc.inMag.slot i = .taken) →
                    t.trc.inMag.state = .exhausted)) ∧
              (s.trc.stopSequence = false →
                t.trc.seq = s.trc.seq ∧ t.trc.seqStopped = s.trc.seqStopped ∧
                  t.dlc.drives.indexer = s.dlc.drives.indexer) ∧
              (s.trc.stopSequence = true → s.trc.seqStopped = true → s.cmc.mode ≠ .halt →
                t.trc.seq = s.trc.seq ∧ t.trc.seqStopped = false ∧
                  (s.trc.seq = .unclamp → t.Queued .indexer .unclamp) ∧
                  (s.trc.seq = .index → t.Queued .indexer .index) ∧
                  (s.trc.seq = .clamp → t.Queued .indexer .clamp))) ∧
          (p.kind = .driveStop → p.source = 4 → t.psc.state ≠ .stopped) ∧
          (p.kind = .headStop → ∀ h, p.source = headNo h → (t.head h).state ≠ .suspended ∧ (t.head h).reason = none) ∧
          (∃ serial arg time lost, t.rm.event.records.getLast? =
            some (.event ⟨serial, time, .promptAck, 21, arg, lost⟩)) ∧
          t.cmc.mode = s.cmc.mode ∧ t.cmc.lotId = s.cmc.lotId ∧ t.rs = s.rs ∧ t.pnc.slots = s.pnc.slots ∧
          t.pnc.selection = s.pnc.selection ∧ t.pending = s.pending)

/-- The F keys (R143, R176): on CLASSIFY the latched pull takes the mode of the key as CLASSIFY gives it, with PANEL as
its classifier; on a screen with keys to the host a KEY notice goes out; anywhere else, and with nothing latched, a chirp.
That a template committed since the frame start governs at once is the model's choice (log 46). -/
def Obligations.FKeysClassifyOrReport : Prop :=
  ∀ (k : Fin 5) (s : State),
    (∀ (serial : Nat) (x : Staged), s.pnc.selection = .view .classify → s.pnc.latched = some serial →
      s.psc.queue.find? (fun p => p.serial == serial) = some x →
      ∃ (t : State) (pass : Bool),
        (pass = true ↔ s.rs.plan.fMin ≤ x.force ∧ s.rs.plan.accept.getLsbD k.val = true) ∧
        exec (.fKey k) s = .next t ∧
        t.rm.pull.records =
          s.rm.pull.records ++
            [.pull
              { serial := s.rm.pull.nextSerial, strip := x.strip, entry := x.entry, mode := k.val + 1,
                verdict := if pass then .pass else .fail, classifier := .panel, force := x.force,
                breakHeight := x.breakHeight, pullTime := x.time, classifyTime := s.cmc.cellTime,
                lotNumber := min x.serial 65535 }] ∧
        t.psc.queue = s.psc.queue.filter (fun p => p.serial != serial) ∧
        t.psc.stats.count = s.psc.stats.count + 1 ∧
        t.cmc.hold = (if pass then s.cmc.hold else some (s.cmc.hold.getD (.pull x.serial))) ∧ t.rs = s.rs ∧
        t.pnc.slots = s.pnc.slots ∧ t.pending = s.pending) ∧
    (s.pnc.selection = .view .classify → (∀ n, s.pnc.latched = some n → ∀ p ∈ s.psc.queue, p.serial ≠ n) →
      exec (.fKey k) s = .next s.chirp.txChoose) ∧
    (∀ (n : Nat) (t : Template), s.pnc.selection = .view (.slot n) → s.pnc.slots[n]? = some (some t) →
      t.keysToHost = true → s.link.notices.length < 16 →
      exec (.fKey k) s =
        .next (s.setLink { s.link with notices := s.link.notices ++ [.key (k.val + 1) n] }).txChoose) ∧
    (∀ n : Nat, s.pnc.selection = .view (.slot n) → (∀ t, s.pnc.slots[n]? = some (some t) → t.keysToHost = false) →
      exec (.fKey k) s = .next s.chirp.txChoose)

/-- The inputs that only report their level (R40, R124, R165, R176, R183): HALT released, the display lock, whose opening
sets PANEL_UNLOCKED, the keyswitch, WIRE_BREAK released, and a drive's attention. Nothing else changes, in every mode. -/
def Obligations.InputLevelsAreKept : Prop :=
  ∀ (level : Bool) (h : HeadId) (d : Drive) (s : State),
    exec .haltInputReleased s = .next (s.setCmc { s.cmc with haltInput := false }).txChoose ∧
    exec (.keyswitchChange level) s = .next (s.setPnc { s.pnc with supervisor := level }).txChoose ∧
    exec (.wireBreakReleased h) s = .next (s.setHead h { s.head h with wireBreak := false }).txChoose ∧
    exec (.attentionChange d level) s =
      .next (s.setDrive d { s.dlc.drives.get d with attention := level }).txChoose ∧
    ∃ t : State, exec (.lockInputChange level) s = .next t ∧ t.pnc = { s.pnc with locked := level } ∧
      (s.pnc.locked = true → level = false → t.cmc.conditions.getLsbD 18 = true) ∧
      (s.pnc.locked = false ∨ level = true → t.cmc = s.cmc) ∧ t.cmc = { s.cmc with conditions := t.cmc.conditions } ∧
      t.rs = s.rs ∧ t.heads = s.heads ∧ t.stu = s.stu ∧ t.trc = s.trc ∧ t.dlc = s.dlc ∧ t.psc = s.psc ∧ t.rm = s.rm ∧
      t.pending = s.pending

/-! ## The heads -/

/-- CONTACT_EDGE and CONTACT_WAIT_EXPIRY in a search (R28, R29, R30, R50, R54, R81, R82): z_c is captured and the
touchdown counted; within the contact window the weld starts at its stage-1 level, outside it the bond is HEIGHT and RAISE
begins, and with no edge it is SEARCH_MISS. The other head, the recipe, the strips, the track, the pull station and the
records stay. -/
def Obligations.ContactStartsTheWeld : Prop :=
  ∀ (h g : HeadId) (b : Bond) (n : Snapshot) (z : BitVec 16) (s : State), h ≠ g → (s.head h).snapshot = some n →
    (s.head h).phase = some (match b with | .ball => .search1 | .stitch => .search2) →
    ((z.toNat - n.height b) + (n.height b - z.toNat) ≤ (n.set b).cw →
      ∃ t : State, exec (.contactEdge h z) s = .next t ∧
        t.head h =
          { (s.head h).setCapture b { (s.head h).capture b with zc := some z.toNat, acc := .opened } with
            phase := some (match b with | .ball => .weld1 | .stitch => .weld2)
            lastZc := some z.toNat
            nCap := (s.head h).nCap + 1
            capArmed := (s.head h).capArmed && decide ((s.head h).nCap + 1 < (s.config h).life * 95 / 100)
            contactWait := false
            posOp := (s.head h).posOp.map fun _ => .stale
            force := (n.set b).force
            ultrasonic := if (n.set b).tPre = 0 then (n.power b).pEff else (n.power b).pPre
            shadow := (n.power b).pEff } ∧
        t.head g = s.head g ∧ t.cmc.mode = s.cmc.mode ∧ t.cmc.hold = s.cmc.hold ∧ t.rs = s.rs ∧ t.stu = s.stu ∧
        t.trc = s.trc ∧ t.dlc = s.dlc ∧ t.psc = s.psc ∧ t.rm = s.rm ∧ t.pending = s.pending) ∧
    ((n.set b).cw < (z.toNat - n.height b) + (n.height b - z.toNat) → s.cmc.mode ≠ .halt →
      ∃ t : State, exec (.contactEdge h z) s = .next t ∧ (t.head h).phase = some .raise ∧
        (t.head h).capture b = { (s.head h).capture b with zc := some z.toNat, verdict := some .height } ∧
        (t.head h).nCap = (s.head h).nCap + 1 ∧ (t.head h).lastZc = some z.toNat ∧
        (t.head h).force = (s.head h).force ∧ (t.head h).ultrasonic = (s.head h).ultrasonic ∧
        (t.head h).contactWait = false ∧
        ((s.head h).posOp = none →
          (t.head h).posOp = some .current ∧ t.dlc.queue = s.dlc.queue ++ [positioner h] ∧
            (t.dlc.drives.get (positioner h)).op = some .raise) ∧
        ((s.head h).posOp.isSome = true →
          (t.head h).posOp = some .stale ∧ (t.head h).heldOp = some .raise ∧ t.dlc = s.dlc) ∧
        t.head g = s.head g ∧ t.cmc.mode = s.cmc.mode ∧ t.cmc.hold = s.cmc.hold ∧ t.rs = s.rs ∧ t.stu = s.stu ∧
        t.trc = s.trc ∧ t.psc = s.psc ∧ t.rm = s.rm ∧ t.pending = s.pending) ∧
    ((s.head h).contactWait = true → s.cmc.mode ≠ .halt →
      ∃ t : State, exec (.contactWaitExpiry h) s = .next t ∧ (t.head h).phase = some .raise ∧
        (t.head h).capture b = { (s.head h).capture b with verdict := some .searchMiss } ∧
        (t.head h).nCap = (s.head h).nCap ∧ (t.head h).contactWait = false ∧
        ((s.head h).posOp = none →
          (t.head h).posOp = some .current ∧ t.dlc.queue = s.dlc.queue ++ [positioner h] ∧
            (t.dlc.drives.get (positioner h)).op = some .raise) ∧
        t.head g = s.head g ∧ t.cmc = s.cmc ∧ t.rs = s.rs ∧ t.stu = s.stu ∧ t.trc = s.trc ∧ t.psc = s.psc ∧
        t.rm = s.rm ∧ t.pending = s.pending)

/-- POWER_SAMPLE, PRE_STAGE_END and WELD_TIMER_EXPIRY in a weld (R30, R50, R51, R52, R53): a sample is clamped to 1023 and
added while the accumulator is OPEN and fewer than T / 50 have come; at t_pre below T the power moves to P_eff; at T
energy, shortfall and deformation are formed, the setpoints are 0 and the check is asked for. Nothing else changes, and a
sample outside a weld is discarded. -/
def Obligations.WeldIsMeasured : Prop :=
  ∀ (h : HeadId) (b : Bond) (n : Snapshot) (word : Nat) (z : BitVec 16) (s : State),
    ((s.head h).snapshot = some n → (s.head h).phase = some (match b with | .ball => .weld1 | .stitch => .weld2) →
      exec (.powerSample h word) s =
          .next
            (if ((s.head h).capture b).acc = .opened ∧ ((s.head h).capture b).received < (n.set b).t / 50 then
              (s.setHead h
                ((s.head h).setCapture b
                  { (s.head h).capture b with
                    sum := ((s.head h).capture b).sum + min word 1023
                    received := ((s.head h).capture b).received + 1 })).txChoose
            else s.txChoose) ∧
        exec (.preStageEnd h) s =
          .next
            (if (n.set b).tPre < (n.set b).t then
              (s.setHead h { s.head h with ultrasonic := (s.head h).shadow }).txChoose
            else s.txChoose) ∧
        exec (.weldTimerExpiry h z) s =
          .next
            (s.setHead h
              { (s.head h).setCapture b
                  { (s.head h).capture b with
                    ze := some z.toNat
                    energy := ((s.head h).capture b).sum / 20
                    shortfall := (n.set b).t / 50 - ((s.head h).capture b).received
                    deform := ((s.head h).capture b).zc.getD 0 - z.toNat
                    acc := .closed } with
                phase := some (match b with | .ball => .check1 | .stitch => .check2)
                force := 0
                ultrasonic := 0
                shadow := 0
                lastZe := some z.toNat
                checkRequest := true }).txChoose) ∧
    ((s.head h).phase ≠ some .weld1 → (s.head h).phase ≠ some .weld2 → exec (.powerSample h word) s = .next s.txChoose)

/-- CHECK_RESULT and CHECK_TIMER_EXPIRY in a check, outside HALT (R26, R31, R33, R55, R58, R59): the verdict is the first
test that fails, every failing test sets its flag, and the wire goes on to LOOP or TAIL, or after a lift to SPARK or
RAISE, whose operation is issued at once, or held back while an earlier one is outstanding; a late result counts as
detached. The other head, the recipe, the strips, the track, the pull station and the records stay. -/
def Obligations.CheckJudgesTheBond : Prop :=
  ∀ (h g : HeadId) (b : Bond) (n : Snapshot) (attached : Bool) (s : State), h ≠ g → (s.head h).snapshot = some n →
    (s.head h).phase = some (match b with | .ball => .check1 | .stitch => .check2) → s.cmc.mode ≠ .halt →
    exec (.checkTimerExpiry h) s = exec (.checkResult h false) s ∧
    ∃ t : State, exec (.checkResult h attached) s = .next t ∧
      (let c := (s.head h).capture b
       let d := (t.head h).capture b
       let u := n.set b
       let w := (u.eMax - u.eMin) * u.guard / 100
       d.verdict =
          some
            (if attached = false then .lift
             else if c.energy < u.eMin then .energyLow
             else if u.eMax < c.energy then .energyHigh
             else if c.deform < u.dMin then .deformLow
             else if u.dMax < c.deform then .deformHigh
             else .good) ∧
        d.flags.getLsbD 0 = !attached ∧ d.flags.getLsbD 1 = decide (c.energy < u.eMin) ∧
        d.flags.getLsbD 2 = decide (u.eMax < c.energy) ∧ d.flags.getLsbD 3 = decide (c.deform < u.dMin) ∧
        d.flags.getLsbD 4 = decide (u.dMax < c.deform) ∧
        d.flags.getLsbD 5 =
          (decide (u.eMin ≤ c.energy ∧ c.energy < u.eMin + w) || decide (u.eMax < c.energy + w ∧ c.energy ≤ u.eMax)) ∧
        d.flags.getLsbD 6 = (n.power b).saturated ∧ d.flags.getLsbD 7 = decide (0 < c.shortfall) ∧
        d.energy = c.energy ∧ d.deform = c.deform ∧ d.zc = c.zc ∧ d.shortfall = c.shortfall) ∧
      (t.head h).checkRequest = false ∧
      (t.head h).phase =
        some
          (match b, attached with
            | .ball, true => .loop
            | .ball, false => .spark
            | .stitch, true => .tail
            | .stitch, false => .raise) ∧
      (t.head h).sparkRequest = ((s.head h).sparkRequest || (b == .ball && !attached)) ∧
      ((s.head h).posOp = none → ¬(b = .ball ∧ attached = false) →
        t.dlc.queue = s.dlc.queue ++ [positioner h] ∧
          (t.dlc.drives.get (positioner h)).op =
            some
              (match b, attached with
                | .ball, _ => .loop n.loop.height n.loop.reverse n.loop.shape n.x2 n.y2
                | .stitch, true => .tail
                | .stitch, false => .raise)) ∧
      ((s.head h).posOp.isSome = true → ¬(b = .ball ∧ attached = false) →
        t.dlc = s.dlc ∧ (t.head h).posOp = some .stale ∧
          (t.head h).heldOp =
            some
              (match b, attached with
                | .ball, _ => .loop n.loop.height n.loop.reverse n.loop.shape n.x2 n.y2
                | .stitch, true => .tail
                | .stitch, false => .raise)) ∧
      t.head g = s.head g ∧ t.cmc = s.cmc ∧ t.rs = s.rs ∧ t.stu = s.stu ∧ t.trc = s.trc ∧ t.psc = s.psc ∧ t.rm = s.rm ∧
      t.pending = s.pending

/-- SPARK_RESULT and SPARK_TIMER_EXPIRY in SPARK (R26, R36, R37, R38, R61, R92): an open attempt is tried again up to the
retries; a restart spark that succeeds clears the flag and begins MOVE_1, and one that fails returns the reservation and
suspends the head with NO_TAIL, its unit kept; after a wire the record is committed, GOOD only when both bonds are, an
operation held back is discarded, a failed spark suspends the head with NO_TAIL, and after a good one a FAILED wire that
brings the fail count to the lift limit suspends it with LIFT_LIMIT. A late result counts as open. -/
def Obligations.SparkEndsTheWire : Prop :=
  ∀ (h : HeadId) (n : Snapshot) (s : State), (s.head h).snapshot = some n → (s.head h).phase = some .spark →
    s.cmc.mode ≠ .halt →
    exec (.sparkTimerExpiry h) s = exec (.sparkResult h false) s ∧
    ((s.head h).sparkAttempts < 1 + (s.config h).retries →
      exec (.sparkResult h false) s =
        .next
          (s.setHead h
            { s.head h with sparkAttempts := (s.head h).sparkAttempts + 1, sparkRequest := true }).txChoose) ∧
    ((s.head h).sparkFrom = some .restart →
      (∃ t : State, exec (.sparkResult h true) s = .next t ∧ (t.head h).phase = some .move1 ∧
        (t.head h).restartSpark = false ∧ (t.head h).sparkRequest = false ∧ (t.head h).unit = (s.head h).unit ∧
        ((s.head h).posOp = none →
          t.dlc.queue = s.dlc.queue ++ [positioner h] ∧
            (t.dlc.drives.get (positioner h)).op = some (.move n.x1 n.y1)) ∧
        t.cmc = s.cmc ∧ t.rs = s.rs ∧ t.stu = s.stu ∧ t.trc = s.trc ∧ t.psc = s.psc ∧ t.rm = s.rm ∧
        t.pending = s.pending) ∧
      (1 + (s.config h).retries ≤ (s.head h).sparkAttempts →
        ∃ t : State, exec (.sparkResult h false) s = .next t ∧ (t.head h).state = .suspended ∧
          (t.head h).reason = some .noTail ∧ (t.head h).unit = (s.head h).unit ∧ (t.head h).snapshot = none ∧
          (t.head h).restartSpark = true ∧ (t.rm.get (bondRegion h)).records = (s.rm.get (bondRegion h)).records ∧
          (t.rm.get (bondRegion h)).reserved = (s.rm.get (bondRegion h)).reserved - 1 ∧ t.cmc.mode = s.cmc.mode ∧
          t.rs = s.rs ∧ t.stu = s.stu ∧ t.trc = s.trc ∧ t.dlc = s.dlc ∧ t.psc = s.psc ∧ t.pending = s.pending)) ∧
    (∀ ok : Bool, (s.head h).sparkFrom ≠ some .restart →
      (ok = false → 1 + (s.config h).retries ≤ (s.head h).sparkAttempts) →
      ∃ (t : State) (r : WireRecord), exec (.sparkResult h ok) s = .next t ∧
        (t.rm.get (bondRegion h)).records = (s.rm.get (bondRegion h)).records ++ [.wire r] ∧
        (t.rm.get (bondRegion h)).reserved = (s.rm.get (bondRegion h)).reserved - 1 ∧
        r.serial = (s.rm.get (bondRegion h)).nextSerial ∧ r.time = s.cmc.cellTime ∧ r.unit = n.unit ∧ r.wire = n.wire ∧
        r.head = h ∧ r.capStart = n.capStart ∧ r.length = (s.head h).wireFeed ∧
        r.ball.pEff = n.ball.pEff ∧ r.stitch.pEff = n.stitch.pEff ∧
        r.outcome =
          (if (s.head h).ball.verdict = some .good ∧ (s.head h).stitch.verdict = some .good then .good else .failed) ∧
        (t.head h).failCount = (if r.outcome = .good then 0 else min 255 ((s.head h).failCount + 1)) ∧
        (t.head h).phase = none ∧ (t.head h).snapshot = none ∧ (t.head h).heldOp = none ∧
        (ok = false → (t.head h).state = .suspended ∧ (t.head h).reason = some .noTail ∧ (t.head h).restartSpark = true) ∧
        (ok = true → r.outcome = .failed → (s.config h).liftLimit ≤ min 255 ((s.head h).failCount + 1) →
          (t.head h).state = .suspended ∧ (t.head h).reason = some .liftLimit) ∧
        (ok = true → (r.outcome = .good ∨ min 255 ((s.head h).failCount + 1) < (s.config h).liftLimit) →
          ¬((t.head h).state = .suspended ∧ (t.head h).reason = some .liftLimit)) ∧
        (ok = true → r.outcome = .good → (s.head h).wireIndex < s.rs.layout.item.wires →
          (t.head h).state = .ready ∧ (t.head h).wireIndex = (s.head h).wireIndex + 1 ∧
            (t.head h).unit = (s.head h).unit) ∧
        t.cmc.mode = s.cmc.mode ∧ t.rs = s.rs ∧ t.dlc = s.dlc ∧ t.psc = s.psc ∧ t.pending = s.pending)

/-- The reports of a wire that ends in SPARK (R59, R65, R71, R72, R73, R74, R75, R76): its strip's count of good or failed
wires and, for a marginal wire, its marginal count and list go up before the unit's outcome. A GOOD wire that is not the
unit's last leaves the unit IN_WORK; the last makes it BONDED, a FAILED one REJECT, and a unit of the band pool gives back
the grant. When no other unit of the strip at BOND is PENDING or IN_WORK the strip is complete: a strip of no pull origin
whose marginal count reaches the plan's Q is ESCALATED, and its pull list is the plan's sites on BONDED units, then the
first M listed marginal wires on BONDED units that are no site; with no origin the list is empty. The station, the recipe,
the mode, the track, the drives and the pull station stay. -/
def Obligations.WireEndReportsTheUnit : Prop :=
  ∀ (h : HeadId) (n : Snapshot) (u : UnitRef) (ok : Bool) (s : State), (s.head h).snapshot = some n →
    (s.head h).phase = some .spark → s.cmc.mode ≠ .halt → (s.head h).sparkFrom ≠ some .restart →
    (ok = false → 1 + (s.config h).retries ≤ (s.head h).sparkAttempts) → (s.head h).unit = some u → n.unit = u →
    ∃ (t : State) (w : WireRecord) (last : Bool), exec (.sparkResult h ok) s = .next t ∧
      (t.rm.get (bondRegion h)).records = (s.rm.get (bondRegion h)).records ++ [.wire w] ∧
      w.outcome =
        (if (s.head h).ball.verdict = some .good ∧ (s.head h).stitch.verdict = some .good then .good else .failed) ∧
      (last = true ↔ w.outcome = .failed ∨ s.rs.layout.item.wires ≤ (s.head h).wireIndex) ∧
      t.stu.grant =
        (if last = true ∧ (s.config .a).enabled = true ∧ (s.config .b).enabled = true ∧ s.rs.layout.item.a < u.col ∧
            u.col < s.rs.layout.item.b then none
         else s.stu.grant) ∧
      (∀ (i : Nat) (x : StripRecord), s.stu.strips[i]? = some x → x.serial = u.strip →
        ∃ y : StripRecord, t.stu.strips[i]? = some y ∧ y.serial = x.serial ∧ y.station = x.station ∧
          y.good = (if w.outcome = .good then min 65535 (x.good + 1) else x.good) ∧
          y.failed = (if w.outcome = .good then x.failed else min 65535 (x.failed + 1)) ∧
          y.marginalCount =
            (if w.ball.flags.getLsbD 5 || w.stitch.flags.getLsbD 5 then min 65535 (x.marginalCount + 1)
             else x.marginalCount) ∧
          y.marginals =
            (if (w.ball.flags.getLsbD 5 || w.stitch.flags.getLsbD 5) = true ∧ x.marginals.length < 8 ∧
                ⟨u.row, u.col, n.wire⟩ ∉ x.marginals then
              x.marginals ++ [⟨u.row, u.col, n.wire⟩]
             else x.marginals) ∧
          (x.unitAt u.row u.col = .inWork →
            y.unitAt u.row u.col =
              (if last = false then .inWork else if w.outcome = .good then .bonded else .reject)) ∧
          (last = true → x.unitAt u.row u.col = .inWork → s.stripAt .bond = some x → x.complete = false →
            ((∃ k < 192, k ≠ unitIndex u.row u.col ∧
                (x.units[k]? = some .pending ∨ x.units[k]? = some .inWork)) → y.complete = false) ∧
            ((∀ k < 192, k ≠ unitIndex u.row u.col → x.units[k]? ≠ some .pending ∧ x.units[k]? ≠ some .inWork) →
              y.complete = true ∧ t.stu.request = ⟨false, false⟩ ∧
              y.origin =
                (if 0 < s.rs.plan.q ∧ x.origin = .none ∧ s.rs.plan.q ≤ y.marginalCount then .escalated
                 else x.origin) ∧
              (y.origin = .none → y.pullList = some []) ∧
              (y.origin ≠ .none →
                let sites :=
                  s.rs.plan.sites.filter fun z =>
                    y.unitAt z.row z.col == .bonded && decide (z.wire ≤ s.rs.layout.item.wires)
                let extra :=
                  (y.marginals.eraseDups.filter fun z => y.unitAt z.row z.col == .bonded && !sites.contains z).take
                    s.rs.plan.m
                y.pullList =
                  some
                    (sites.map (fun z => ⟨z.row, z.col, z.wire, if y.origin = .escalated then .escalated else .plan⟩) ++
                      extra.map fun z => ⟨z.row, z.col, z.wire, .marginal⟩))))) ∧
      t.cmc.mode = s.cmc.mode ∧ t.rs = s.rs ∧ t.trc = s.trc ∧ t.dlc = s.dlc ∧ t.psc = s.psc ∧ t.pending = s.pending

/-- WIRE_BREAK_ASSERTED (R40, R43, R57): an IDLE or READY head is suspended with its unit kept, an ACTIVE head's wire is
committed FAILED with its outputs at 0 and its unit given up, a SUSPENDED or DISABLED head only keeps the level, and an
input already asserted changes nothing (the model's choice, log 1). A wire whose two verdicts are GOOD already is FAILED
too, as R40 and the event's row of the opcode table say, where R37 and R61 call such a wire GOOD in general (log 28). The
unit is reported REJECT. The recipe, the lot, the hold, the mode, the drives and the pull station stay. -/
def Obligations.WireBreakSuspendsTheHead : Prop :=
  ∀ (h : HeadId) (s : State),
    ((s.head h).wireBreak = true → exec (.wireBreakAsserted h) s = .next s.txChoose) ∧
    ((s.head h).wireBreak = false → (s.head h).state = .suspended ∨ (s.head h).state = .disabled →
      exec (.wireBreakAsserted h) s = .next (s.setHead h { s.head h with wireBreak := true }).txChoose) ∧
    ((s.head h).wireBreak = false → (s.head h).state = .idle ∨ (s.head h).state = .ready →
      ∃ t : State, exec (.wireBreakAsserted h) s = .next t ∧
        t.head h =
          { s.head h with
            wireBreak := true, restartSpark := true, state := .suspended, gate := none, reason := some .wireBreak } ∧
        (t.pnc.findPrompt .headStop (headNo h)).isSome = true ∧
        t.cmc.conditions.getLsbD (match h with | .a => 7 | .b => 8) = true ∧ t.cmc.mode = s.cmc.mode ∧
        t.cmc.hold = s.cmc.hold ∧ t.cmc.lot = s.cmc.lot ∧ t.rs = s.rs ∧ t.stu = s.stu ∧ t.trc = s.trc ∧ t.dlc = s.dlc ∧
        t.psc = s.psc ∧ t.pending = s.pending) ∧
    (∀ n : Snapshot, (s.head h).wireBreak = false → (s.head h).state = .active → (s.head h).snapshot = some n →
      ∃ (t : State) (r : WireRecord), exec (.wireBreakAsserted h) s = .next t ∧
        (t.rm.get (bondRegion h)).records = (s.rm.get (bondRegion h)).records ++ [.wire r] ∧
        r.outcome = .failed ∧ r.unit = n.unit ∧ r.wire = n.wire ∧ (t.head h).state = .suspended ∧ (t.head h).reason = some .wireBreak ∧
        (t.head h).restartSpark = true ∧
        (t.head h).unit = none ∧ (t.head h).failCount = min 255 ((s.head h).failCount + 1) ∧
        (∀ (i : Nat) (x : StripRecord), s.stu.strips[i]? = some x → x.serial = n.unit.strip →
          ∃ y : StripRecord, t.stu.strips[i]? = some y ∧ y.serial = x.serial ∧ y.good = x.good ∧
            y.failed = min 65535 (x.failed + 1) ∧
            ((s.head h).unit = some n.unit → x.unitAt n.unit.row n.unit.col = .inWork →
              y.unitAt n.unit.row n.unit.col = .reject)) ∧
        (t.head h).snapshot = none ∧ (t.head h).force = 0 ∧ (t.head h).ultrasonic = 0 ∧
        (t.head h).checkRequest = false ∧ (t.head h).sparkRequest = false ∧
        t.cmc.mode = s.cmc.mode ∧ t.cmc.hold = s.cmc.hold ∧ t.cmc.lot = s.cmc.lot ∧ t.rs = s.rs ∧ t.dlc = s.dlc ∧
        t.psc = s.psc ∧ t.pending = s.pending)

/-- BAND_GRANT (R68, R69, R70): with no grant held and a PENDING unit in the pool of the strip at BOND, the grant goes to
the only head that asks and is not SUSPENDED, or of two to the one that did not hold it last, A after neither. That head
gets its band unit, for A the PENDING one of the lowest column, for B of the highest, and of those of the lowest row; the
unit becomes IN_WORK, every other stays, and the head begins at wire 1. With no strip at BOND, or no PENDING unit in its
pool, every standing request ends. With the grant held, or no request, nothing changes (the model's choice, log 1). -/
def Obligations.BandGrantGoesInTurn : Prop :=
  (∀ (h g : HeadId) (r : StripRecord) (row col : Nat) (s : State), h ≠ g → s.stu.grant = none →
    s.stu.strips.find? (fun x => x.station == .bond) = some r → (s.config .a).enabled = true →
    (s.config .b).enabled = true →
    r.TakesFirst h s.rs.layout.item.rows (s.rs.layout.item.a + 1) (s.rs.layout.item.b - 1) row col →
    s.stu.request.get h = true → (s.head h).state ≠ .suspended →
    (s.stu.request.get g = true → (s.head g).state ≠ .suspended →
      s.stu.lastHolder = some g ∨ (s.stu.lastHolder = none ∧ h = .a)) →
    ∃ t : State, exec .bandGrant s = .next t ∧ t.stu.grant = some h ∧ t.stu.lastHolder = some h ∧
      t.stu.request.get h = false ∧ t.stu.request.get g = s.stu.request.get g ∧
      (t.head h).unit = some ⟨r.serial, row, col⟩ ∧ (t.head h).wireIndex = 1 ∧ (t.head h).wantsBand = false ∧
      (∃ y : StripRecord, t.stripAt .bond = some y ∧ y.serial = r.serial ∧
        ∀ i : Nat, y.units[i]? = if i = unitIndex row col then some .inWork else r.units[i]?) ∧
      (t.head h).state = (s.head h).state ∧ t.head g = s.head g ∧ t.cmc = s.cmc ∧ t.rs = s.rs ∧ t.trc = s.trc ∧
      t.dlc = s.dlc ∧ t.psc = s.psc ∧ t.rm = s.rm ∧ t.pnc = s.pnc ∧ t.pending = s.pending) ∧
  (∀ s : State, s.stu.grant = none → s.stu.request ≠ ⟨false, false⟩ →
    (s.stripAt .bond = none ∨ ∃ r, s.stripAt .bond = some r ∧
      ((s.config .a).enabled = true → (s.config .b).enabled = true →
        r.NonePending s.rs.layout.item.rows (s.rs.layout.item.a + 1) (s.rs.layout.item.b - 1))) →
    ∃ t : State, exec .bandGrant s = .next t ∧ t.stu.request = ⟨false, false⟩ ∧ t.stu.grant = none ∧
      (∀ h : HeadId, s.stu.request.get h = true → (t.head h).wantsBand = false) ∧
      (∀ h : HeadId, s.stu.request.get h = false → t.head h = s.head h) ∧ t.cmc.mode = s.cmc.mode ∧
      t.cmc.hold = s.cmc.hold ∧ t.cmc.lot = s.cmc.lot ∧ t.rs = s.rs ∧ t.trc = s.trc ∧ t.dlc = s.dlc ∧ t.psc = s.psc ∧
      t.pending = s.pending) ∧
  ∀ s : State, s.stu.grant.isSome = true ∨ s.stu.request = ⟨false, false⟩ → exec .bandGrant s = .next s.txChoose

/-- WIRE_START of a READY head whose gates 1 to 5 pass (R23, R24, R25, R48, R50, R84, R89, R150): past the capillary life
it is suspended with CAP_LIFE, below the reserve with SPOOL_EMPTY, also while its region has refused it; with no room it
waits at RECORD and the region's producer is marked waiting; refused already and not told of room it waits at RECORD and
asks for nothing; else a record is reserved and the wire starts on a snapshot, with SPARK when the restart flag is set and
with MOVE_1 when it is clear. That a refused head whose gates no event has tested again since (it shows RECORD) takes no
WIRE_START at all is the model's choice (logs 1, 8). The other head, the strips, the recipe, the mode, the track and the
pull station stay. -/
def Obligations.WireStartTakesASnapshot : Prop :=
  ∀ (h g : HeadId) (u : UnitRef) (s : State), h ≠ g → (s.head h).unit = some u → (s.head h).state = .ready →
    (s.rm.get (bondRegion h)).waiting = false ∨ (s.head h).gate ≠ some .record → s.headGate h = none →
    ∃ t : State, exec (.wireStart h) s = .next t ∧
      ((s.config h).life < (s.head h).nCap + 2 →
        (t.head h).state = .suspended ∧ (t.head h).reason = some .capLife ∧ t.rm.get (bondRegion h) = s.rm.get (bondRegion h)) ∧
      ((s.head h).nCap + 2 ≤ (s.config h).life → (s.head h).spool < (s.config h).spoolReserve * 100000 →
        (t.head h).state = .suspended ∧ (t.head h).reason = some .spoolEmpty ∧
          t.rm.get (bondRegion h) = s.rm.get (bondRegion h)) ∧
      ((s.head h).nCap + 2 ≤ (s.config h).life → (s.config h).spoolReserve * 100000 ≤ (s.head h).spool →
        ((s.rm.get (bondRegion h)).waiting = true ∨
          (s.rm.get (bondRegion h)).capacity (bondRegion h) ≤
            (s.rm.get (bondRegion h)).records.length + (s.rm.get (bondRegion h)).reserved) →
        t.head h = { s.head h with gate := some .record } ∧ (t.rm.get (bondRegion h)).waiting = true ∧
          ((s.rm.get (bondRegion h)).waiting = true → t.rm = s.rm ∧ t.cmc = s.cmc) ∧
          ((s.rm.get (bondRegion h)).waiting = false → t.cmc.conditions.getLsbD 15 = true) ∧
          exec (.wireStart h) t = .next t.txChoose) ∧
      ((s.head h).nCap + 2 ≤ (s.config h).life → (s.config h).spoolReserve * 100000 ≤ (s.head h).spool →
        (s.rm.get (bondRegion h)).waiting = false →
        (s.rm.get (bondRegion h)).records.length + (s.rm.get (bondRegion h)).reserved <
            (s.rm.get (bondRegion h)).capacity (bondRegion h) →
        (t.rm.get (bondRegion h)).reserved = (s.rm.get (bondRegion h)).reserved + 1 ∧ (t.head h).state = .active ∧
          (t.head h).phase = some (if (s.head h).restartSpark then .spark else .move1) ∧
          (t.head h).sparkRequest = ((s.head h).restartSpark || (s.head h).sparkRequest) ∧
          (t.head h).wireFeed = 0 ∧ (t.head h).ball = .clear ∧ (t.head h).stitch = .clear ∧
          ∃ n : Snapshot, (t.head h).snapshot = some n ∧ n.unit = u ∧ n.wire = (s.head h).wireIndex ∧
            n.capStart = (s.head h).nCap ∧ n.entry = wireEntry s.rs (s.head h).wireIndex ∧
            n.ballSet = bondSet s.rs n.entry.ballSet ∧ n.stitchSet = bondSet s.rs n.entry.stitchSet ∧
            n.loop = loopProfile s.rs n.entry.loop ∧
            n.x1 =
              wrap32 (s.rs.layout.item.ox + ((u.col : Int) - 1) * s.rs.layout.item.px + n.entry.x1 - (s.config h).hx) ∧
            n.y2 =
              wrap32 (s.rs.layout.item.oy + ((u.row : Int) - 1) * s.rs.layout.item.py + n.entry.y2 - (s.config h).hy) ∧
            n.ball.pEff =
              min (s.config h).pLim
                (n.ballSet.pSet + n.ballSet.pSet * (s.config h).gain * ((s.head h).nCap / 10000) / 1000) ∧
            n.stitch.pPre = n.stitch.pEff * n.stitchSet.r / 100 ∧
            ((s.head h).restartSpark = false → (s.head h).posOp = none →
              t.dlc.queue = s.dlc.queue ++ [positioner h] ∧
                (t.dlc.drives.get (positioner h)).op = some (.move n.x1 n.y1))) ∧
      t.head g = s.head g ∧ t.cmc.mode = s.cmc.mode ∧ t.cmc.hold = s.cmc.hold ∧ t.rs = s.rs ∧ t.stu = s.stu ∧
      t.trc = s.trc ∧ t.psc = s.psc ∧ t.pending = s.pending

/-! ## The track and the pull station -/

/-- FEED, STORE and PULL_START with their gates passing (R100, R113, R134, R135, R150): with room each reserves and hands
its operation to the Drive Line; FEED and PULL_START without room wait at RECORD with the region's producer marked, and
ask no more until told of room (that the marked producer's start then changes nothing is log 1); a strip at EXIT with no
magazine ready asks for one. The recipe, the mode, the hold and the strips stay. -/
def Obligations.FeedStoreAndPullAreHandedOver : Prop :=
  ∀ s : State,
    (∀ k : Nat, s.trc.inMag.lowestLoaded = some k → s.cmc.mode = .run → s.cmc.lot = .opened → s.stu.fed < 65535 →
      s.occupied .load = false → s.trc.push = none → s.trc.seq = .idle → s.trc.inMag.state = .ready →
      s.trc.stopInput = false → s.rm.strip.waiting = false → s.trc.inOp = none →
      (s.rm.strip.records.length + s.rm.strip.reserved < s.rm.strip.capacity .strip →
        exec .feed s =
          .next
            (((s.setTrc
              { s.trc with push := some (s.trc.inMag.number, k), inOp := some .push, feedGate := some .load }).setRm
              { s.rm with strip := { s.rm.strip with reserved := s.rm.strip.reserved + 1, waiting := false } }).setDlc
              { s.dlc with
                queue := s.dlc.queue ++ [.inElevator]
                drives :=
                  { s.dlc.drives with
                    inElevator := { s.dlc.drives.inElevator with stage := .queued, op := some (.push k) } } }).txChoose) ∧
      (s.rm.strip.capacity .strip ≤ s.rm.strip.records.length + s.rm.strip.reserved →
        ∃ t : State, exec .feed s = .next t ∧ t.trc = { s.trc with feedGate := some .record } ∧
          t.rm = { s.rm with strip := { s.rm.strip with waiting := true } } ∧ t.cmc.conditions.getLsbD 15 = true ∧
          t.dlc = s.dlc ∧ t.stu = s.stu ∧ t.rs = s.rs ∧ t.cmc.mode = s.cmc.mode ∧
          t.cmc.hold = s.cmc.hold ∧ t.pending = s.pending)) ∧
    (s.rm.strip.waiting = true → exec .feed s = .next s.txChoose) ∧
    (s.rm.pull.waiting = true → exec .pullStart s = .next s.txChoose) ∧
    (s.cmc.mode = .run ∨ s.cmc.mode = .drain → s.occupied .exit = true → s.trc.store = none → s.trc.stopOutput = false →
      (∀ k : Nat, s.trc.outMag.state = .ready → s.trc.outMag.lowestEmpty = some k →
        exec .store s =
          .next
            ((s.setTrc { s.trc with store := some (s.trc.outMag.number, k) }).setDlc
              { s.dlc with
                queue := s.dlc.queue ++ [.outElevator]
                drives :=
                  { s.dlc.drives with
                    outElevator := { s.dlc.drives.outElevator with stage := .queued, op := some (.store k) } } }).txChoose) ∧
      (s.trc.outMag.state ≠ .ready → s.pnc.findPrompt .outputChange 0 = none →
        ∃ t : State, exec .store s = .next t ∧ (t.pnc.findPrompt .outputChange 0).isSome = true ∧
          t.cmc.conditions.getLsbD 14 = true ∧ t.trc = s.trc ∧ t.dlc = s.dlc ∧ t.stu = s.stu ∧ t.rs = s.rs ∧
          t.cmc.mode = s.cmc.mode ∧ t.cmc.hold = s.cmc.hold ∧ t.pending = s.pending)) ∧
    (∀ (serial : Nat) (e : PullEntry) (r : StripRecord) (list : List PullEntry), s.psc.state = .waiting →
      s.cmc.mode = .run ∨ s.cmc.mode = .drain → s.psc.queue.length < 32 → s.rm.pull.waiting = false →
      s.psc.strip = some serial → s.stu.strips.find? (fun x => x.serial == serial) = some r → r.pullList = some list →
      list[s.psc.next - 1]? = some e →
      (s.rm.pull.records.length + s.rm.pull.reserved < s.rm.pull.capacity .pull →
        ∃ (t : State) (f : Flight), exec .pullStart s = .next t ∧
          t.psc = { s.psc with state := .pulling, gate := none, flight := some f } ∧ f.entry = e ∧
          f.hookX =
            s.rs.layout.item.ox + ((e.col : Int) - 1) * s.rs.layout.item.px +
              ((wireEntry s.rs e.wire).x1 + (wireEntry s.rs e.wire).x2) / 2 ∧
          f.hookY =
            s.rs.layout.item.oy + ((e.row : Int) - 1) * s.rs.layout.item.py +
              ((wireEntry s.rs e.wire).y1 + (wireEntry s.rs e.wire).y2) / 2 ∧
          t.rm = { s.rm with pull := { s.rm.pull with reserved := s.rm.pull.reserved + 1, waiting := false } } ∧
          t.dlc.queue = s.dlc.queue ++ [.pull] ∧ t.dlc.drives.pull.op = some (.pull f.hookX f.hookY) ∧
          t.cmc = s.cmc ∧ t.rs = s.rs ∧ t.stu = s.stu ∧ t.trc = s.trc ∧ t.heads = s.heads ∧ t.pending = s.pending) ∧
      (s.rm.pull.capacity .pull ≤ s.rm.pull.records.length + s.rm.pull.reserved →
        ∃ t : State, exec .pullStart s = .next t ∧ t.psc = { s.psc with gate := some .record } ∧
          t.rm = { s.rm with pull := { s.rm.pull with waiting := true } } ∧ t.cmc.conditions.getLsbD 15 = true ∧
          t.dlc = s.dlc ∧ t.stu = s.stu ∧ t.rs = s.rs ∧ t.cmc.mode = s.cmc.mode ∧
          t.cmc.hold = s.cmc.hold ∧ t.pending = s.pending))

/-- TRACK_SEQUENCE_START, PREHEAT_DWELL_EXPIRY, DRAIN_COMPLETE and LOT_CLOSE (R107, R108, R109, R181, R185): with every
condition met the indexer gets UNCLAMP, or INDEX when the clamp is OPEN already, and the track moves; with a strip at BOND
unclamped and the sequence not due it gets CLAMP alone; the dwell is done; an empty track ends DRAIN in SETUP with cause
5; a CLOSING lot in SETUP with nothing left ends, its id kept and the strip maps dropped. DRAIN_COMPLETE and LOT_CLOSE
whose conditions do not hold change nothing (the model's choice, log 1), nor does the expiry of a dwell that does not run
(log 4). The recipe, the hold, the strips, the records but events and the screens stay. -/
def Obligations.TrackStepsAreTaken : Prop :=
  ∀ s : State,
    (s.cmc.mode = .run ∨ s.cmc.mode = .drain → s.trc.seq = .idle → s.trc.stopSequence = false →
      s.stripAt .exit = none → s.occupied .load || s.occupied .preheat || s.occupied .bond || s.occupied .verify →
      s.trc.push = none → s.heads.a.state ≠ .active → s.heads.b.state ≠ .active →
      (∀ r, s.stripAt .bond = some r → r.complete = true) → (s.occupied .verify = true → s.trc.pullsDone = true) →
      (s.occupied .preheat = true → s.trc.dwell = .done) → s.psc.state ≠ .pulling →
      ∃ t : State, exec .trackSequenceStart s = .next t ∧
        t.trc.seq = (if s.trc.clamp = .opened then .index else .unclamp) ∧ t.trc.seqStopped = false ∧
        t.dlc.queue = s.dlc.queue ++ [.indexer] ∧
        t.dlc.drives.indexer.op = some (if s.trc.clamp = .opened then .index else .unclamp) ∧
        t.dlc.drives.indexer.stage = .queued ∧ t.cmc = s.cmc ∧ t.rs = s.rs ∧ t.stu = s.stu ∧ t.psc = s.psc ∧
        t.rm = s.rm ∧ t.pnc = s.pnc ∧ t.pending = s.pending) ∧
    (s.cmc.mode = .run ∨ s.cmc.mode = .drain → s.trc.seq = .idle → s.trc.stopSequence = false →
      s.occupied .bond = true → s.trc.clamp ≠ .closed → s.sequenceReady = false →
      ∃ t : State, exec .trackSequenceStart s = .next t ∧ t.trc.seq = .clamp ∧ t.trc.seqStopped = false ∧
        t.dlc.queue = s.dlc.queue ++ [.indexer] ∧ t.dlc.drives.indexer.op = some .clamp ∧
        t.dlc.drives.indexer.stage = .queued ∧ t.trc.clamp = s.trc.clamp ∧ t.cmc = s.cmc ∧ t.rs = s.rs ∧
        t.stu = s.stu ∧ t.psc = s.psc ∧ t.rm = s.rm ∧ t.pnc = s.pnc ∧ t.pending = s.pending) ∧
    exec .preheatDwellExpiry s =
      .next
        (match s.trc.dwell with
          | .running _ => (s.setTrc { s.trc with dwell := .done }).txChoose
          | .none | .done => s.txChoose) ∧
    (s.cmc.mode = .drain → s.stu.strips = [] → s.trc.push = none →
      ∃ t : State, exec .drainComplete s = .next t ∧ t.cmc.mode = .setup ∧ t.cmc.cause = 5 ∧
        t.cmc.lot = (if s.cmc.lot = .closing ∧ s.psc.queue = [] then .none else s.cmc.lot) ∧
        t.cmc.lotId = s.cmc.lotId ∧ t.cmc.hold = s.cmc.hold ∧ t.rs = s.rs ∧ t.stu = s.stu ∧ t.rm.bondA = s.rm.bondA ∧
        t.rm.bondB = s.rm.bondB ∧ t.rm.pull = s.rm.pull ∧ t.rm.strip = s.rm.strip ∧ t.pnc.slots = s.pnc.slots ∧
        t.pending = s.pending) ∧
    (s.cmc.mode ≠ .drain ∨ s.stu.strips ≠ [] ∨ s.trc.push.isSome = true → exec .drainComplete s = .next s.txChoose) ∧
    (s.cmc.lot = .closing → s.cmc.mode = .setup → s.stu.strips = [] → s.trc.push = none → s.psc.queue = [] →
      ∃ t : State, exec .lotClose s = .next t ∧ t.cmc.lot = .none ∧ t.cmc.lotId = s.cmc.lotId ∧ t.trc.maps = [] ∧
        t.cmc.mode = .setup ∧ t.cmc.hold = s.cmc.hold ∧
        (∃ lost, t.rm.event.records.getLast? =
          some (.event ⟨s.rm.event.nextSerial, s.cmc.cellTime, .lotEnd, 16, s.cmc.lotId, lost⟩)) ∧
        t.rm.bondA = s.rm.bondA ∧ t.rm.bondB = s.rm.bondB ∧ t.rm.pull = s.rm.pull ∧ t.rm.strip = s.rm.strip ∧
        t.rs = s.rs ∧ t.stu = s.stu ∧ t.dlc = s.dlc ∧ t.psc = s.psc ∧ t.heads = s.heads ∧ t.pnc = s.pnc ∧
        t.pending = s.pending) ∧
    (s.cmc.lot ≠ .closing ∨ s.cmc.mode ≠ .setup ∨ s.stu.strips ≠ [] ∨ s.trc.push.isSome = true ∨ s.psc.queue ≠ [] →
      exec .lotClose s = .next s.txChoose)

/-! ## The Drive Line -/

/-- STOP, POLL and COMMAND_EXCHANGE on a line that is free or has sent a STOP (R121, R124, R127, R128, R130): a pending
STOP goes first, to address 0, and holds the line until the next transfer or millisecond (the model's choice, log 10);
then a poll of the attending drive with the lowest address, then the oldest queued operation as its command frame: address
character, op, length, arguments, and the byte that makes the sum of the data bytes zero. Nothing else changes, and a
transfer before whose turn another comes changes nothing (the model's choice, log 1). -/
def Obligations.TheLineIsTakenInOrder : Prop :=
  ∀ s : State, s.dlc.line = .free ∨ s.dlc.line = .stop →
    (s.dlc.stopPending = true →
      exec .stop s =
        .next
          (s.setDlc { s.dlc with line := .stop, stopPending := false, sent := [0x100, 0x7F, 0x00, 0x81] }).txChoose ∧
      exec .poll s = .next s.txChoose ∧ exec .commandExchange s = .next s.txChoose) ∧
    (∀ d : Drive, s.dlc.stopPending = false → (s.dlc.drives.get d).attention = true →
      (∀ e : Drive, driveAddress e < driveAddress d → (s.dlc.drives.get e).attention = false) →
      exec .poll s =
        .next
          (s.setDlc
            { s.dlc with
              line := .poll d []
              sent := [BitVec.ofNat 9 (256 + driveAddress d), 0x70, 0x00, 0x90] }).txChoose ∧
      exec .commandExchange s = .next s.txChoose) ∧
    (∀ (d : Drive) (rest : List Drive) (op : DriveOp), s.dlc.stopPending = false →
      (∀ e : Drive, (s.dlc.drives.get e).attention = false) → s.dlc.queue = d :: rest →
      (s.dlc.drives.get d).op = some op →
      ∃ check : Byte, (op.code :: byte op.args.length :: (op.args ++ [check])).foldl (· + ·) 0 = 0 ∧
        exec .commandExchange s =
          .next
            (s.setDlc
              { s.dlc with
                queue := rest
                drives := s.dlc.drives.set d { s.dlc.drives.get d with stage := .inExchange }
                line := .command d false
                sent :=
                  BitVec.ofNat 9 (256 + driveAddress d) ::
                    (op.code :: byte op.args.length :: (op.args ++ [check])).map fun b => b.setWidth 9 }).txChoose)

/-- ANSWER_CHARACTER, ANSWER_WINDOW_EXPIRY and OPERATION_TIMEOUT (R119, R122, R123, R129): 0x5A makes the operation
OUTSTANDING with the timeout then in force; 0xA5, anything else or no answer, and the expiry of an OUTSTANDING operation's
timer are kept as the drive's last fault with their conditions; an operation HALT has ended loses its outcome. An expiry
for a drive with nothing OUTSTANDING changes nothing (the model's choice, log 4). The mode and the recipe stay. -/
def Obligations.AnswersDecideTheOperation : Prop :=
  ∀ (d : Drive) (s : State),
    (s.dlc.line = .command d false →
      exec (.answerCharacter 0x5A) s =
          .next
            (s.setDlc
              { s.dlc with
                line := .free
                drives :=
                  s.dlc.drives.set d
                    { s.dlc.drives.get d with
                      stage := .outstanding
                      acceptAt := s.cmc.cellTime
                      timeout :=
                        match d with
                        | .posA => s.rs.heads.a.item.timeout
                        | .posB => s.rs.heads.b.item.timeout
                        | .indexer => s.rs.track.item.indexerTimeout
                        | .inElevator | .outElevator => s.rs.track.item.elevatorTimeout
                        | .pull => s.rs.track.item.pullTimeout
                        | .workHolder => 500 } }).txChoose ∧
        (∃ t : State, exec (.answerCharacter 0xA5) s = .next t ∧ t.dlc.line = .free ∧
          (t.dlc.drives.get d).lastFault = ⟨.refused, ((s.dlc.drives.get d).op.map DriveOp.code).getD 0, 0⟩ ∧
          t.cmc.conditions.getLsbD 10 = true ∧ t.cmc.mode = s.cmc.mode ∧ t.rs = s.rs ∧ t.pending = s.pending) ∧
        (∀ c : LineChar, c ≠ 0x5A → c ≠ 0xA5 → exec (.answerCharacter c) s = exec .answerWindowExpiry s) ∧
        (∃ t : State, exec .answerWindowExpiry s = .next t ∧ t.dlc.line = .free ∧
          (t.dlc.drives.get d).lastFault = ⟨.noAnswer, ((s.dlc.drives.get d).op.map DriveOp.code).getD 0, 0⟩ ∧
          t.cmc.conditions.getLsbD 10 = true ∧ t.cmc.conditions.getLsbD 11 = true ∧ t.cmc.mode = s.cmc.mode ∧
          t.rs = s.rs ∧ t.pending = s.pending)) ∧
    (s.dlc.line = .command d true →
      exec .answerWindowExpiry s = .next (s.setDlc { s.dlc with line := .free }).txChoose ∧
      ∀ c : LineChar, exec (.answerCharacter c) s = .next (s.setDlc { s.dlc with line := .free }).txChoose) ∧
    ((s.dlc.drives.get d).stage = .outstanding →
      ∃ t : State, exec (.operationTimeout d) s = .next t ∧
        (t.dlc.drives.get d).lastFault = ⟨.timeout, ((s.dlc.drives.get d).op.map DriveOp.code).getD 0, 0⟩ ∧
        t.cmc.conditions.getLsbD 9 = true ∧ t.dlc.line = s.dlc.line ∧ t.cmc.mode = s.cmc.mode ∧ t.rs = s.rs ∧
        t.pending = s.pending) ∧
    ((s.dlc.drives.get d).stage ≠ .outstanding → exec (.operationTimeout d) s = .next s.txChoose)

/-- STATUS_FRAME_CHARACTER and STATUS_WINDOW_EXPIRY during a poll (R105, R121, R123, R125, R126): characters gather until
the frame's length is reached; a late or missing character, and a frame whose sum is not zero, give AGAIN and
DRIVE_LINE_ERROR. A good frame is confirmed and acted on: a DONE of the OUTSTANDING operation makes the drive's stage NONE
and hands its results to the issuer; a DONE or FAULT of a drive with nothing OUTSTANDING is a late reply, with its
condition and event, that no issuer sees; a temperature report is kept and the heat judged by it. -/
def Obligations.StatusFramesAreJudged : Prop :=
  ∀ (d : Drive) (s : State),
    (∀ chars : List Byte, s.dlc.line = .poll d chars →
      exec .statusWindowExpiry s =
        .next
          ((s.setCondition .driveLineError).setDlc { s.dlc with line := .free, sent := [0xCC] }).txChoose ∧
      (∀ b : Byte, (∀ n, (chars ++ [b])[2]? = some n → n.toNat + 4 ≠ chars.length + 1) →
        exec (.statusFrameCharacter (b.setWidth 9)) s =
          .next (s.setDlc { s.dlc with line := .poll d (chars ++ [b]) }).txChoose) ∧
      (∀ (b n : Byte), (chars ++ [b])[2]? = some n → n.toNat + 4 = chars.length + 1 →
        (chars ++ [b]).foldl (· + ·) 0 ≠ 0 →
        exec (.statusFrameCharacter (b.setWidth 9)) s = exec .statusWindowExpiry s)) ∧
    (∀ (op : Byte) (results : List Byte),
      (op ∈ [0x10#8, 0x12, 0x13, 0x14, 0x20, 0x21, 0x22, 0x31, 0x38, 0x50] ∧ results.length = 0 ∨
        op ∈ [0x11#8, 0x30] ∧ results.length = 1 ∨ op = 0x40 ∧ results.length = 4) →
      s.dlc.line = .poll d (statusHead 1 op results) →
      (∀ o : DriveOp, s.Outstanding d o → o.code = op →
        exec (statusEnd 1 op results) s =
          .next
            ((s.setDlc
              { s.dlc with
                line := .free
                sent := [0x33]
                drives :=
                  s.dlc.drives.set d
                    { s.dlc.drives.get d with stage := .none, op := none, acceptAt := 0, timeout := 0 } }).deliver d
              (.done results)).txChoose)) ∧
    (∀ (kind op : Byte) (results : List Byte),
      (kind = 1 ∧
            (op ∈ [0x10#8, 0x12, 0x13, 0x14, 0x20, 0x21, 0x22, 0x31, 0x38, 0x50] ∧ results.length = 0 ∨
              op ∈ [0x11#8, 0x30] ∧ results.length = 1 ∨ op = 0x40 ∧ results.length = 4) ∨
          kind = 2 ∧ results.length = 1) →
      s.dlc.line = .poll d (statusHead kind op results) → (s.dlc.drives.get d).stage ≠ .outstanding →
      ∃ t : State, exec (statusEnd kind op results) s = .next t ∧
        t.dlc = { s.dlc with line := .free, sent := [0x33] } ∧ t.cmc.conditions.getLsbD 21 = true ∧
        (∃ lost, t.rm.event.records.getLast? =
          some
            (.event
              ⟨s.rm.event.nextSerial, s.cmc.cellTime, .lateReply, driveAddress d,
                kind.toNat * 2 ^ 24 + op.toNat * 2 ^ 16, lost⟩)) ∧
        t.cmc.mode = s.cmc.mode ∧ t.cmc.hold = s.cmc.hold ∧ t.rs = s.rs ∧ t.heads = s.heads ∧ t.stu = s.stu ∧
        t.trc = s.trc ∧ t.psc = s.psc ∧ t.pnc = s.pnc ∧ t.pending = s.pending) ∧
    (∀ high low : Byte, s.dlc.line = .poll .workHolder (statusHead 3 0x60 [high, low]) →
      ∃ t : State, exec (statusEnd 3 0x60 [high, low]) s = .next t ∧
        t.dlc = { s.dlc with line := .free, sent := [0x33] } ∧ t.trc.lastTemp = high.toNat * 256 + low.toNat ∧
        t.trc.heat =
          (if (high.toNat * 256 + low.toNat - s.rs.track.item.setpoint) +
                (s.rs.track.item.setpoint - (high.toNat * 256 + low.toNat)) ≤ s.rs.track.item.band then .inBand
           else .outOfBand) ∧
        t.cmc.mode = s.cmc.mode ∧ t.cmc.hold = s.cmc.hold ∧ t.rs = s.rs ∧ t.stu = s.stu ∧ t.psc = s.psc ∧
        t.pending = s.pending)

/-! ## What a drive's DONE, FAULT or report does to its owner -/

/-- DONE of the operation a head's phase waits for (R26, R27, R28, R32, R33, R34, R35, R120, R123, R126): MOVE leads to
SEARCH at the ball with the z limit z1 - cw - 500, never below 0; a SEARCH without contact is a SEARCH_MISS and RAISE
begins, one with contact waits for the edge; LOOP leads to SEARCH at the stitch; TAIL leads to the first attempt of SPARK;
RAISE ends the wire FAILED, and after a failed stitch suspends the head with LOOSE_WIRE. A DONE of an operation whose
phase has ended has no effect on the wire but that an operation held back behind it is issued (R26). The recipe, the
track, the pull station and the mode stay; the other head stays too, but that a wire ended by RAISE may complete the
strip, which ends its standing band request (R70, R74). -/
def Obligations.PositionerDoneEndsThePhase : Prop :=
  ∀ (h g : HeadId) (n : Snapshot) (s : State), h ≠ g → (s.head h).state = .active → (s.head h).snapshot = some n →
    s.cmc.mode ≠ .halt →
    (∀ (p : Phase) (o : DriveOp) (q : Phase) (next : DriveOp), (s.head h).posOp = some .current →
      (s.head h).phase = some p → s.Outstanding (positioner h) o →
      s.dlc.line = .poll (positioner h) (statusHead 1 o.code []) →
      (p = .move1 ∧ (∃ x y, o = .move x y) ∧ q = .search1 ∧
          next = .search (n.entry.z1 - (n.ballSet.cw + 500)) 1 ∨
        p = .loop ∧ (∃ a b c x y, o = .loop a b c x y) ∧ q = .search2 ∧
          next = .search (n.entry.z2 - (n.stitchSet.cw + 500)) 1) →
      ∃ t : State, exec (statusEnd 1 o.code []) s = .next t ∧ t.dlc.line = .free ∧ t.dlc.sent = [0x33] ∧
        t.head h = { s.head h with phase := some q, posOp := some .current, contactWait := false } ∧
        t.Queued (positioner h) next ∧ t.head g = s.head g ∧ t.cmc = s.cmc ∧ t.rs = s.rs ∧ t.stu = s.stu ∧
        t.trc = s.trc ∧ t.psc = s.psc ∧ t.rm = s.rm ∧ t.pnc = s.pnc ∧ t.pending = s.pending) ∧
    (∀ (b : Bond) (z v : Nat), (s.head h).posOp = some .current →
      (s.head h).phase = some (match b with | .ball => .search1 | .stitch => .search2) →
      s.Outstanding (positioner h) (.search z v) →
      (s.dlc.line = .poll (positioner h) (statusHead 1 0x11 [0]) →
        ∃ t : State, exec (statusEnd 1 0x11 [0]) s = .next t ∧
          t.head h =
            { (s.head h).setCapture b { (s.head h).capture b with verdict := some .searchMiss } with
              phase := some .raise, posOp := some .current, contactWait := false } ∧
          t.Queued (positioner h) .raise ∧ t.head g = s.head g ∧ t.cmc = s.cmc ∧ t.rs = s.rs ∧ t.stu = s.stu ∧
          t.trc = s.trc ∧ t.psc = s.psc ∧ t.rm = s.rm ∧ t.pnc = s.pnc ∧ t.pending = s.pending) ∧
      (s.dlc.line = .poll (positioner h) (statusHead 1 0x11 [1]) →
        ∃ t : State, exec (statusEnd 1 0x11 [1]) s = .next t ∧
          t.head h = { s.head h with posOp := none, contactWait := true } ∧
          (t.dlc.drives.get (positioner h)).stage = .none ∧ t.dlc.queue = s.dlc.queue ∧ t.head g = s.head g ∧
          t.cmc = s.cmc ∧ t.rs = s.rs ∧ t.stu = s.stu ∧ t.trc = s.trc ∧ t.psc = s.psc ∧ t.rm = s.rm ∧ t.pnc = s.pnc ∧
          t.pending = s.pending)) ∧
    ((s.head h).posOp = some .current → (s.head h).phase = some .tail → s.Outstanding (positioner h) .tail →
      s.dlc.line = .poll (positioner h) (statusHead 1 0x13 []) →
      ∃ t : State, exec (statusEnd 1 0x13 []) s = .next t ∧
        t.head h =
          { s.head h with
            phase := some .spark, sparkFrom := some .tail, sparkAttempts := 1, sparkRequest := true, posOp := none
            contactWait := false } ∧
        (t.dlc.drives.get (positioner h)).stage = .none ∧ t.dlc.queue = s.dlc.queue ∧ t.head g = s.head g ∧
        t.cmc = s.cmc ∧ t.rs = s.rs ∧ t.stu = s.stu ∧ t.trc = s.trc ∧ t.psc = s.psc ∧ t.rm = s.rm ∧ t.pnc = s.pnc ∧
        t.pending = s.pending) ∧
    ((s.head h).posOp = some .current → (s.head h).phase = some .raise → s.Outstanding (positioner h) .raise →
      s.dlc.line = .poll (positioner h) (statusHead 1 0x14 []) →
      ∃ (t : State) (r : WireRecord), exec (statusEnd 1 0x14 []) s = .next t ∧
        (t.rm.get (bondRegion h)).records =
          (s.rm.get (bondRegion h)).records ++ [.wire { r with outcome := .failed }] ∧
        r.serial = (s.rm.get (bondRegion h)).nextSerial ∧ r.time = s.cmc.cellTime ∧ r.unit = n.unit ∧
        r.wire = n.wire ∧ r.head = h ∧ r.ball.verdict = (s.head h).ball.verdict.getD .notMade ∧
        r.stitch.verdict = (s.head h).stitch.verdict.getD .notMade ∧
        (t.rm.get (bondRegion h)).reserved = (s.rm.get (bondRegion h)).reserved - 1 ∧
        (t.head h).phase = none ∧ (t.head h).snapshot = none ∧
        (t.head h).failCount = min 255 ((s.head h).failCount + 1) ∧
        ((s.head h).ball.verdict ≠ some .searchMiss → (s.head h).ball.verdict ≠ some .height →
          (t.head h).state = .suspended ∧ (t.head h).reason = some .looseWire ∧ (t.head h).restartSpark = true) ∧
        ((s.head h).ball.verdict = some .searchMiss ∨ (s.head h).ball.verdict = some .height →
          (t.head h).reason ≠ some .looseWire ∧
            ((s.head h).wireBreak = false → (t.head h).restartSpark = (s.head h).restartSpark)) ∧
        (s.stu.request.get g = false → t.head g = s.head g) ∧
        t.cmc.mode = s.cmc.mode ∧ t.cmc.hold = s.cmc.hold ∧ t.rs = s.rs ∧ t.trc = s.trc ∧ t.psc = s.psc ∧
        t.pending = s.pending) ∧
    (∀ (o : DriveOp) (results : List Byte), (s.head h).posOp = some .stale → (s.head h).heldOp = none →
      s.Outstanding (positioner h) o → resultLength o.code = some results.length →
      s.dlc.line = .poll (positioner h) (statusHead 1 o.code results) →
      ∃ t : State, exec (statusEnd 1 o.code results) s = .next t ∧ t.head h = { s.head h with posOp := none } ∧
        (t.dlc.drives.get (positioner h)).stage = .none ∧ t.dlc.queue = s.dlc.queue ∧ t.heads.get g = s.heads.get g ∧
        t.cmc = s.cmc ∧ t.rm = s.rm ∧ t.stu = s.stu ∧ t.rs = s.rs ∧ t.trc = s.trc ∧ t.psc = s.psc ∧ t.pnc = s.pnc ∧
        t.pending = s.pending) ∧
    (∀ (o held : DriveOp) (results : List Byte), (s.head h).posOp = some .stale → (s.head h).heldOp = some held →
      s.Outstanding (positioner h) o → resultLength o.code = some results.length →
      s.dlc.line = .poll (positioner h) (statusHead 1 o.code results) →
      ∃ t : State, exec (statusEnd 1 o.code results) s = .next t ∧
        t.head h = { s.head h with posOp := some .current, heldOp := none } ∧ t.Queued (positioner h) held ∧
        t.heads.get g = s.heads.get g ∧ t.cmc = s.cmc ∧ t.rm = s.rm ∧ t.stu = s.stu ∧ t.rs = s.rs ∧ t.trc = s.trc ∧
        t.psc = s.psc ∧ t.pnc = s.pnc ∧ t.pending = s.pending)

/-- DONE of SCAN and of PUSH at the input elevator (R62, R63, R98, R100, R101, R120, R123, R126). A scanned slot is LOADED
or EMPTY by the answer and the scan goes on at the next slot that is not TAKEN, or ends: READY with a LOADED slot and no
INPUT_CHANGE prompt, EXHAUSTED without, with the prompt and its condition. A pushed strip gets its record at LOAD,
numbered by the strips fed, with the units its map flags SKIPPED_IN and every other unit of the layout PENDING; its slot
is TAKEN, its map entry goes, its reservation stays, and the push is over. Its time stored is 0 until then (the model's
choice, log 40). The recipe, the reservations and the hold stay; the strip that reaches the serial limit takes a cell in
RUN to DRAIN (R181). -/
def Obligations.InputElevatorDoneScansOrFeeds : Prop :=
  ∀ s : State, s.cmc.mode ≠ .halt →
    (∀ (k : Nat) (yes : Bool), s.trc.inOp = some .scan → s.trc.inMag.scanSlot = some k → 1 ≤ k → k ≤ 64 →
      s.Outstanding .inElevator (.scan k) →
      s.dlc.line = .poll .inElevator (statusHead 1 0x30 [boolByte yes]) →
      ∃ t : State, exec (statusEnd 1 0x30 [boolByte yes]) s = .next t ∧ t.dlc.line = .free ∧ t.dlc.sent = [0x33] ∧
        (∀ i : Nat, i < 64 →
          t.trc.inMag.slots[i]? = if i = k - 1 then some (if yes then .loaded else .empty) else s.trc.inMag.slots[i]?) ∧
        t.trc.inMag.number = s.trc.inMag.number ∧ t.trc.inMag.count = s.trc.inMag.count ∧
        (∀ j : Nat, k < j → j ≤ s.trc.inMag.count → s.trc.inMag.slot j ≠ .taken →
          (∀ i : Nat, k < i → i < j → s.trc.inMag.slot i = .taken) →
          t.trc.inMag.scanSlot = some j ∧ t.trc.inMag.state = s.trc.inMag.state ∧ t.trc.inOp = some .scan ∧
            t.Queued .inElevator (.scan j) ∧ t.cmc = s.cmc ∧ t.rm = s.rm ∧ t.pnc = s.pnc) ∧
        ((∀ i : Nat, k < i → i ≤ s.trc.inMag.count → s.trc.inMag.slot i = .taken) →
          t.trc.inMag.scanSlot = none ∧ t.trc.inOp = none ∧ (t.dlc.drives.get .inElevator).stage = .none ∧
            t.trc.inMag.state = (if t.trc.inMag.loaded = 0 then .exhausted else .ready) ∧
            (t.pnc.findPrompt .inputChange 0).isSome = decide (t.trc.inMag.loaded = 0) ∧
            (t.trc.inMag.loaded = 0 → t.cmc.conditions.getLsbD 13 = true) ∧
            (∃ lost, t.rm.event.records.getLast? =
              some
                (.event
                  ⟨s.rm.event.nextSerial, s.cmc.cellTime, .magInLoaded, 19,
                    argHalves s.trc.inMag.number t.trc.inMag.loaded, lost⟩)) ∧
            t.rm.bondA = s.rm.bondA ∧ t.rm.bondB = s.rm.bondB ∧ t.rm.pull = s.rm.pull ∧ t.rm.strip = s.rm.strip) ∧
        t.cmc.mode = s.cmc.mode ∧ t.cmc.hold = s.cmc.hold ∧ t.rs = s.rs ∧ t.heads = s.heads ∧ t.stu = s.stu ∧
        t.psc = s.psc ∧ t.pending = s.pending) ∧
    (∀ (mag slot k : Nat), s.trc.inOp = some .push → s.trc.push = some (mag, slot) →
      s.Outstanding .inElevator (.push k) → s.dlc.line = .poll .inElevator (statusHead 1 0x31 []) →
      ∃ (t : State) (r : StripRecord), exec (statusEnd 1 0x31 []) s = .next t ∧
        t.stu.fed = s.stu.fed + 1 ∧
        (s.stu.fed + 1 < 65535 ∨ s.cmc.mode ≠ .run →
          t.stu = { s.stu with fed := s.stu.fed + 1, strips := s.stu.strips ++ [r] }) ∧
        r.serial = s.stu.fed + 1 ∧ r.inMag = mag ∧ r.inSlot = slot ∧ r.station = .load ∧ r.complete = false ∧
        r.mapPresent = (s.trc.mapFor mag slot).isSome ∧
        r.origin =
          (if 0 < s.rs.plan.k ∧ (s.stu.fed + 1) % s.rs.plan.k = 0 then .plan else .none) ∧
        (∀ row col : Nat, 1 ≤ row → row ≤ 8 → 1 ≤ col → col ≤ 24 →
          r.unitAt row col =
            if row ≤ s.rs.layout.item.rows ∧ col ≤ s.rs.layout.item.cols then
              (if ((s.trc.mapFor mag slot).map (·.bad)).any (·.getLsbD ((row - 1) * 24 + (col - 1))) then .skippedIn
               else .pending)
            else .none) ∧
        r.marginalCount = 0 ∧ r.marginals = [] ∧ r.pullList = none ∧ r.good = 0 ∧ r.failed = 0 ∧
        r.timeFed = s.cmc.cellTime ∧ r.timeStored = 0 ∧ r.out = none ∧
        t.trc.push = none ∧ t.trc.maps = s.trc.maps.filter (fun e => !(e.mag == mag && e.slot == slot)) ∧
        (s.trc.inMag.state ≠ .absent → s.trc.inMag.number = mag → 1 ≤ slot → slot ≤ 64 →
          t.trc.inMag.slot slot = .taken) ∧
        (s.trc.inMag.state ≠ .absent → s.trc.inMag.number = mag →
          (s.trc.inMag.setSlot slot .taken).loaded = 0 →
          t.trc.inMag.state = .exhausted ∧ (t.pnc.findPrompt .inputChange 0).isSome = true ∧
            t.cmc.conditions.getLsbD 13 = true) ∧
        t.rm.strip = s.rm.strip ∧ t.rm.bondA = s.rm.bondA ∧ t.rm.bondB = s.rm.bondB ∧ t.rm.pull = s.rm.pull ∧
        t.cmc.mode = (if 65535 ≤ s.stu.fed + 1 ∧ s.cmc.mode = .run then .drain else s.cmc.mode) ∧
        t.cmc.hold = s.cmc.hold ∧ t.rs = s.rs ∧ t.pending = s.pending)

/-- DONE of a step of the track sequence (R22, R64, R66, R67, R96, R107, R109, R123, R126): UNCLAMP opens the clamp and
INDEX follows; INDEX moves every strip one station on, starts the dwell of a strip now at PREHEAT, and goes on to CLAMP
with a strip now at BOND, else the track is IDLE; CLAMP closes the clamp and the track is IDLE. When, under a layout as R5
lets one be loaded, INDEX brings an incomplete strip to BOND in RUN or DRAIN, each enabled IDLE head gets the first
PENDING unit of its own list, IN_WORK, and is READY from wire 1 on: A its columns from the lowest up, B from the highest
down, rows ascending, all columns for a head enabled alone. With no PENDING own unit and one in the band pool it is READY
with a standing band request; with none in either it stays IDLE. The track going IDLE hands a strip at VERIFY to the pull
station. That an index clears handed over and pulls done even with VERIFY empty is the model's choice (log 32). The
recipe, the lot, the hold, the mode and the bond records stay. -/
def Obligations.SequenceStepsFollowEachOther : Prop :=
  ∀ s : State, s.trc.seqStopped = false →
    (s.trc.seq = .unclamp → s.Outstanding .indexer .unclamp → s.dlc.line = .poll .indexer (statusHead 1 0x20 []) →
      ∃ t : State, exec (statusEnd 1 0x20 []) s = .next t ∧
        t.trc = { s.trc with clamp := .opened, seq := .index } ∧ t.Queued .indexer .index ∧ t.cmc = s.cmc ∧
        t.rs = s.rs ∧ t.heads = s.heads ∧ t.stu = s.stu ∧ t.psc = s.psc ∧ t.rm = s.rm ∧ t.pnc = s.pnc ∧
        t.pending = s.pending) ∧
    (s.trc.seq = .index → s.Outstanding .indexer .index → s.dlc.line = .poll .indexer (statusHead 1 0x21 []) →
      ∃ t : State, exec (statusEnd 1 0x21 []) s = .next t ∧ t.trc.clamp = .opened ∧
        t.stu.strips.map (fun r => (r.serial, r.station)) =
          s.stu.strips.map (fun r =>
            (r.serial,
              match r.station with
              | .load => .preheat
              | .preheat => .bond
              | .bond => .verify
              | .verify => .exit
              | .exit => .exit)) ∧
        t.stu.fed = s.stu.fed ∧
        t.trc.dwell =
          (if s.occupied .load = false then .none
           else if s.rs.track.item.dwell = 0 then .done
           else .running ((s.cmc.cellTime + s.rs.track.item.dwell) % 2 ^ 32)) ∧
        (s.occupied .preheat = true →
          t.trc.seq = .clamp ∧ t.trc.handedOver = false ∧ t.trc.pullsDone = false ∧ t.Queued .indexer .clamp) ∧
        (s.occupied .preheat = false →
          t.trc.seq = .idle ∧ t.trc.handedOver = s.occupied .bond ∧
            (t.dlc.drives.get .indexer).stage = .none) ∧
        (∀ (h : HeadId) (r : StripRecord), s.stripAt .preheat = some r → r.complete = false →
          (s.cmc.mode = .run ∨ s.cmc.mode = .drain) → (s.head h).state = .idle → (s.config h).enabled = true →
          s.rs.layout.item.a < s.rs.layout.item.b → s.rs.layout.item.a ≤ s.rs.layout.item.cols →
          s.rs.layout.item.b ≤ s.rs.layout.item.cols + 1 → s.rs.layout.item.cols ≤ 24 →
          let l := s.rs.layout.item
          let both := (s.config .a).enabled && (s.config .b).enabled
          let first := match h with | .a => 1 | .b => if both then l.b else 1
          let last := match h with | .a => if both then l.a else l.cols | .b => l.cols
          (∀ row col : Nat, r.TakesFirst h l.rows first last row col →
            (t.head h).unit = some ⟨r.serial, row, col⟩ ∧ (t.head h).wireIndex = 1 ∧ (t.head h).wantsBand = false ∧
              (t.head h).state = .ready ∧
              (t.head h).gate = some (if s.cmc.hold.isSome then .hold else .clamp) ∧
              ∃ y : StripRecord, t.stripAt .bond = some y ∧ y.serial = r.serial ∧ y.unitAt row col = .inWork) ∧
          (r.NonePending l.rows first last → both = true → ¬r.NonePending l.rows (l.a + 1) (l.b - 1) →
            t.stu.request.get h = true ∧ (t.head h).wantsBand = true ∧ (t.head h).unit = (s.head h).unit ∧
              (t.head h).state = .ready ∧
              (t.head h).gate = some (if s.cmc.hold.isSome then .hold else .clamp)) ∧
          (r.NonePending l.rows first last → (both = true → r.NonePending l.rows (l.a + 1) (l.b - 1)) →
            s.stu.request.get h = false → t.head h = s.head h)) ∧
        t.cmc.mode = s.cmc.mode ∧ t.cmc.hold = s.cmc.hold ∧ t.cmc.lot = s.cmc.lot ∧ t.rs = s.rs ∧
        t.rm.bondA = s.rm.bondA ∧ t.rm.bondB = s.rm.bondB ∧ t.rm.strip = s.rm.strip ∧ t.pending = s.pending) ∧
    (s.trc.seq = .clamp → s.Outstanding .indexer .clamp → s.dlc.line = .poll .indexer (statusHead 1 0x22 []) →
      ∃ t : State, exec (statusEnd 1 0x22 []) s = .next t ∧ t.trc.clamp = .closed ∧ t.trc.seq = .idle ∧
        t.trc.handedOver = (s.trc.handedOver || s.occupied .verify) ∧
        (t.dlc.drives.get .indexer).stage = .none ∧ t.stu = s.stu ∧ t.cmc.mode = s.cmc.mode ∧ t.cmc.hold = s.cmc.hold ∧
        t.cmc.lot = s.cmc.lot ∧ t.rs = s.rs ∧ t.rm.bondA = s.rm.bondA ∧ t.rm.bondB = s.rm.bondB ∧
        t.rm.strip = s.rm.strip ∧ t.pending = s.pending)

/-- DONE of STORE (R78, R112, R113, R123, R126): the strip summary is committed to STRIP with the output magazine and slot
and the time, the record is gone and EXIT empty, the slot is FILLED with the strip's serial while the magazine still
stands under the store's number, FULL when no EMPTY slot is left, and the store is over. The recipe, the other strips, the
hold, the mode and the bond records stay. -/
def Obligations.StoreDoneCommitsTheSummary : Prop :=
  ∀ (mag slot k : Nat) (r : StripRecord) (s : State), s.trc.store = some (mag, slot) → s.stripAt .exit = some r →
    s.Outstanding .outElevator (.store k) → s.dlc.line = .poll .outElevator (statusHead 1 0x38 []) →
    ∃ t : State, exec (statusEnd 1 0x38 []) s = .next t ∧ t.dlc.line = .free ∧ t.dlc.sent = [0x33] ∧
      (t.dlc.drives.get .outElevator).stage = .none ∧
      t.rm.strip.records =
        s.rm.strip.records ++
          [.strip
            { serial := s.rm.strip.nextSerial, lotId := s.cmc.lotId,
              record := { r with out := some (mag, slot), timeStored := s.cmc.cellTime } }] ∧
      t.rm.strip.reserved = s.rm.strip.reserved - 1 ∧
      t.stu = { s.stu with strips := s.stu.strips.filter (fun x => x.station != .exit) } ∧
      t.stripAt .exit = none ∧ t.trc.store = none ∧
      (s.trc.outMag.state ≠ .absent → s.trc.outMag.number = mag →
        t.trc.outMag.slots = s.trc.outMag.slots.setIfInBounds (slot - 1) (.filled r.serial) ∧
          t.trc.outMag.state = (if t.trc.outMag.lowestEmpty = none then .full else s.trc.outMag.state)) ∧
      (s.trc.outMag.state = .absent ∨ s.trc.outMag.number ≠ mag → t.trc.outMag = s.trc.outMag) ∧
      t.cmc.mode = s.cmc.mode ∧ t.cmc.hold = s.cmc.hold ∧ t.cmc.lotId = s.cmc.lotId ∧ t.rs = s.rs ∧
      t.heads = s.heads ∧ t.psc = s.psc ∧ t.rm.bondA = s.rm.bondA ∧ t.rm.bondB = s.rm.bondB ∧ t.rm.pull = s.rm.pull ∧
      t.pending = s.pending

/-- DONE of PULL (R77, R133, R136, R140, R144, R186, R123, R126): the pull gets the next pull number and joins the
classification queue with its peak force and break height; below the plan's F_min its verdict is FAIL at once and a clear
hold is set, which takes a cell in RUN to DRAIN; a BONDED unit is PULLED; the station goes on to the next entry of the
list, or reports pulls done. The reservation is kept for the classification, and the recipe and the bond records stay, and
with no change of mode the strips but that unit. -/
def Obligations.PullDoneStagesTheRecord : Prop :=
  ∀ (f : Flight) (serial : Nat) (x y : Int) (a b c d : Byte) (s : State), s.psc.state = .pulling →
    s.psc.flight = some f → s.psc.strip = some serial → s.Outstanding .pull (.pull x y) →
    s.dlc.line = .poll .pull (statusHead 1 0x40 [a, b, c, d]) →
    ∃ (t : State) (fails : Bool), (fails = true ↔ a.toNat * 256 + b.toNat < s.rs.plan.fMin) ∧
      exec (statusEnd 1 0x40 [a, b, c, d]) s = .next t ∧ (t.dlc.drives.get .pull).stage = .none ∧
      t.psc.counter = s.psc.counter + 1 ∧
      t.psc.queue =
        s.psc.queue ++
          [{ serial := s.psc.counter + 1, strip := serial, entry := f.entry, force := a.toNat * 256 + b.toNat,
             breakHeight := c.toNat * 256 + d.toNat, time := s.cmc.cellTime, provisionalFail := fails }] ∧
      t.psc.flight = none ∧ t.psc.stats = s.psc.stats ∧
      (s.psc.next + 1 ≤ s.psc.listLength →
        t.psc.state = .waiting ∧ t.psc.next = s.psc.next + 1 ∧ t.psc.strip = some serial ∧
          t.trc.pullsDone = s.trc.pullsDone) ∧
      (s.psc.listLength < s.psc.next + 1 → t.psc.state = .idle ∧ t.psc.strip = none ∧ t.trc.pullsDone = true) ∧
      (fails = false ∨ s.cmc.hold.isSome = true ∨ s.cmc.mode ≠ .run →
        t.stu.strips = s.stu.strips.map fun r =>
          if r.serial = serial ∧ r.unitAt f.entry.row f.entry.col = .bonded then
            r.setUnit f.entry.row f.entry.col .pulled
          else r) ∧
      (s.psc.queue = [] → (t.pnc.findPrompt .classifyPending 0).isSome = true) ∧
      t.cmc.hold = (if fails then some (s.cmc.hold.getD (.pull (s.psc.counter + 1))) else s.cmc.hold) ∧
      t.cmc.mode = (if fails = true ∧ s.cmc.hold = none ∧ s.cmc.mode = .run then .drain else s.cmc.mode) ∧
      t.rs = s.rs ∧ t.rm.pull = s.rm.pull ∧ t.rm.bondA = s.rm.bondA ∧ t.rm.bondB = s.rm.bondB ∧
      t.rm.strip = s.rm.strip ∧ t.pending = s.pending

/-- A good FAULT of an OUTSTANDING operation (R39, R99, R102, R106, R110, R114, R123, R126, R129, R137): the drive's stage
is NONE and its last fault the code given, DRIVE_FAULT is set, and the issuer deals with it. An ACTIVE head ends its wire
ABORTED and is suspended with DRIVE; a SCAN stops its scan; a PUSH returns its reservation and jams its slot; a step of
the sequence stops the sequence where it is; a STORE jams its slot; a PULL is recorded NO_PULL and the station stops. That
a PUSH whose magazine has been taken away stops INPUT too is the model's choice (log 27). The recipe, the hold and the
mode stay. -/
def Obligations.FaultEndsTheOperation : Prop :=
  ∀ (d : Drive) (o : DriveOp) (code : Byte) (s : State), s.Outstanding d o → s.cmc.mode ≠ .halt →
    s.dlc.line = .poll d (statusHead 2 o.code [code]) →
    ∃ t : State, exec (statusEnd 2 o.code [code]) s = .next t ∧ t.dlc.line = .free ∧ t.dlc.sent = [0x33] ∧
      (t.dlc.drives.get d).lastFault = ⟨.fault, o.code, code⟩ ∧ t.cmc.conditions.getLsbD 10 = true ∧
      t.cmc.mode = s.cmc.mode ∧ t.cmc.hold = s.cmc.hold ∧ t.rs = s.rs ∧ t.pending = s.pending ∧
      (∀ (h : HeadId) (n : Snapshot), d = positioner h → (s.head h).state = .active → (s.head h).snapshot = some n →
        (t.dlc.drives.get d).stage = .none ∧
        (∃ r : WireRecord, r.outcome = .aborted ∧ r.unit = n.unit ∧ r.wire = n.wire ∧
          (t.rm.get (bondRegion h)).records = (s.rm.get (bondRegion h)).records ++ [.wire r]) ∧
        (t.head h).state = .suspended ∧ (t.head h).reason = some .drive ∧ (t.head h).restartSpark = true ∧
        (t.head h).failCount = (s.head h).failCount ∧ (t.head h).posOp = none ∧ (t.head h).snapshot = none ∧
        (t.head h).force = 0 ∧ (t.head h).ultrasonic = 0) ∧
      (∀ k : Nat, d = .inElevator → s.trc.inOp = some .scan → s.trc.inMag.scanSlot = some k →
        (t.dlc.drives.get d).stage = .none ∧ t.trc.inMag.state = .fault ∧ t.trc.inMag.scanSlot = none ∧
        t.trc.inMag.slots = s.trc.inMag.slots ∧ t.trc.stopInput = true ∧ t.trc.driveStopRaised = true ∧
        (s.trc.driveStopRaised = false → (t.pnc.findPrompt .driveStop 3).isSome = true)) ∧
      (∀ mag slot : Nat, d = .inElevator → s.trc.inOp = some .push → s.trc.push = some (mag, slot) →
        t.trc.push = none ∧ t.stu = s.stu ∧ t.rm.strip.reserved = s.rm.strip.reserved - 1 ∧
        t.rm.strip.records = s.rm.strip.records ∧ t.trc.stopInput = true ∧
        (s.trc.inMag.state ≠ .absent → s.trc.inMag.number = mag →
          t.trc.inMag.state = .fault ∧
            t.trc.inMag.slots = s.trc.inMag.slots.setIfInBounds (slot - 1) .jammed)) ∧
      (d = .indexer → s.trc.seq ≠ .idle → s.trc.seqStopped = false →
        (t.dlc.drives.get d).stage = .none ∧ t.trc.seq = s.trc.seq ∧ t.trc.seqStopped = true ∧
        t.trc.stopSequence = true ∧ t.trc.clamp = s.trc.clamp ∧ t.stu = s.stu ∧ t.trc.driveStopRaised = true) ∧
      (∀ mag slot : Nat, d = .outElevator → s.trc.store = some (mag, slot) →
        (t.dlc.drives.get d).stage = .none ∧ t.trc.store = none ∧ t.stu = s.stu ∧ t.rm.strip = s.rm.strip ∧
        t.trc.stopOutput = true ∧
        (s.trc.outMag.state ≠ .absent → s.trc.outMag.number = mag →
          t.trc.outMag.slots = s.trc.outMag.slots.setIfInBounds (slot - 1) .jammed ∧
            t.trc.outMag.state = (if t.trc.outMag.lowestEmpty = none then .full else s.trc.outMag.state))) ∧
      (∀ (f : Flight) (serial : Nat), d = .pull → s.psc.state = .pulling → s.psc.flight = some f →
        s.psc.strip = some serial →
        (t.dlc.drives.get d).stage = .none ∧ t.psc.state = .stopped ∧ t.psc.flight = none ∧
        t.psc.next = s.psc.next + 1 ∧ t.psc.queue = s.psc.queue ∧
        t.psc.stats = { s.psc.stats with noPull := s.psc.stats.noPull + 1 } ∧
        (∃ p : PullRecord, p.verdict = .noPull ∧ p.strip = serial ∧ p.entry = f.entry ∧ p.serial = s.rm.pull.nextSerial ∧
          t.rm.pull.records = s.rm.pull.records ++ [.pull p]) ∧
        (t.pnc.findPrompt .driveStop 4).isSome = true) ∧
      (d = .workHolder → s.trc.setTempWaiting = [] →
        (t.dlc.drives.get d).stage = .none ∧ t.trc = { s.trc with setTempOut := false } ∧ t.pnc = s.pnc)

/-- MAGAZINE reports of the input elevator (R97, R98, R104): a magazine presented takes the next number, 255 going to 1,
and the configured slot count, every slot UNKNOWN, and its scan starts at slot 1, behind an operation still outstanding;
in HALT it is FAULT and a rescan is wanted. A magazine removed is ABSENT with every slot UNKNOWN, its scan, INPUT, the
wanted rescan and its strip maps gone, and MAG_IN_REMOVED written with its LOADED slots. Any other report changes nothing
but the line. -/
def Obligations.InputMagazineReportsAreTaken : Prop :=
  ∀ (present : Bool) (s : State), 1 ≤ s.rs.track.item.inSlots →
    s.dlc.line = .poll .inElevator (statusHead 3 0x61 [boolByte present]) →
    ∃ t : State, exec (statusEnd 3 0x61 [boolByte present]) s = .next t ∧ t.dlc.line = .free ∧ t.dlc.sent = [0x33] ∧
      (present = true → s.trc.inMag.state = .absent →
        t.trc.inMag.number = (if s.trc.inMag.number < 255 then s.trc.inMag.number + 1 else 1) ∧
        t.trc.inMag.count = s.rs.track.item.inSlots ∧ t.trc.inMag.slots = Vector.replicate 64 .unknown ∧
        (s.cmc.mode = .halt →
          t.trc.inMag.state = .fault ∧ t.trc.rescanWanted = true ∧ t.trc.inOp = s.trc.inOp ∧
            t.dlc.queue = s.dlc.queue) ∧
        (s.cmc.mode ≠ .halt → t.trc.inMag.state = .scanning ∧ t.trc.inMag.scanSlot = some 1) ∧
        (s.cmc.mode ≠ .halt → s.trc.inOp = none → t.trc.inOp = some .scan ∧ t.Queued .inElevator (.scan 1)) ∧
        (s.cmc.mode ≠ .halt → s.trc.inOp.isSome = true →
          t.trc.scanHeld = true ∧ t.trc.inOp.isSome = true ∧ t.dlc.queue = s.dlc.queue) ∧
        t.rm = s.rm ∧ t.trc.maps = s.trc.maps) ∧
      (present = false → s.trc.inMag.state ≠ .absent →
        t.trc.inMag.state = .absent ∧ t.trc.inMag.slots = Vector.replicate 64 .unknown ∧
        t.trc.inMag.number = s.trc.inMag.number ∧ t.trc.inMag.scanSlot = none ∧ t.trc.scanHeld = false ∧
        t.trc.stopInput = false ∧ t.trc.rescanWanted = false ∧ t.trc.inOp ≠ some .scan ∧ t.trc.push = s.trc.push ∧
        t.trc.maps = s.trc.maps.filter (fun e => e.mag != s.trc.inMag.number) ∧
        (∃ lost, t.rm.event.records.getLast? =
          some
            (.event
              ⟨s.rm.event.nextSerial, s.cmc.cellTime, .magInRemoved, 19,
                argHalves s.trc.inMag.number s.trc.inMag.loaded, lost⟩)) ∧
        t.dlc.queue = s.dlc.queue) ∧
      (present = true → s.trc.inMag.state ≠ .absent → t.trc = s.trc ∧ t.rm = s.rm) ∧
      (present = false → s.trc.inMag.state = .absent → t.trc = s.trc ∧ t.rm = s.rm) ∧
      t.trc.outMag = s.trc.outMag ∧ t.cmc.mode = s.cmc.mode ∧ t.cmc.hold = s.cmc.hold ∧ t.rs = s.rs ∧ t.heads = s.heads ∧
      t.stu = s.stu ∧ t.psc = s.psc ∧ t.pnc = s.pnc ∧ t.pending = s.pending

/-- MAGAZINE reports of the output elevator (R112, R113): a magazine presented takes the next number, 255 going to 1, and
the configured slot count with every slot EMPTY, is READY, ends the OUTPUT_CHANGE prompt and writes MAG_OUT_REPLACED;
slots above the count stay UNKNOWN (the model's choice, log 33). A magazine removed is ABSENT with every slot UNKNOWN, and
a strip that waits at EXIT asks for another; that this sets OUTPUT_FULL also while the prompt already stands is the
model's choice (log 26). Any other report changes nothing but the line. -/
def Obligations.OutputMagazineReportsAreTaken : Prop :=
  ∀ (present : Bool) (s : State), s.dlc.line = .poll .outElevator (statusHead 3 0x61 [boolByte present]) →
    ∃ t : State, exec (statusEnd 3 0x61 [boolByte present]) s = .next t ∧
      t.dlc = { s.dlc with line := .free, sent := [0x33] } ∧
      (present = true → s.trc.outMag.state = .absent →
        t.trc.outMag.state = .ready ∧
        t.trc.outMag.number = (if s.trc.outMag.number < 255 then s.trc.outMag.number + 1 else 1) ∧
        t.trc.outMag.count = s.rs.track.item.outSlots ∧
        (∀ i < 64, t.trc.outMag.slots[i]? = some (if i < s.rs.track.item.outSlots then .empty else .unknown)) ∧
        t.pnc.findPrompt .outputChange 0 = none ∧
        (∃ lost, t.rm.event.records.getLast? =
          some
            (.event
              ⟨s.rm.event.nextSerial, s.cmc.cellTime, .magOutReplaced, 19, t.trc.outMag.number, lost⟩))) ∧
      (present = false → s.trc.outMag.state ≠ .absent →
        t.trc.outMag = { s.trc.outMag with state := .absent, slots := Vector.replicate 64 .unknown } ∧
        (s.occupied .exit = true → s.trc.store = none →
          (t.pnc.findPrompt .outputChange 0).isSome = true ∧ t.cmc.conditions.getLsbD 14 = true) ∧
        (s.occupied .exit = false ∨ s.trc.store.isSome = true → t.pnc = s.pnc ∧ t.cmc = s.cmc) ∧ t.rm = s.rm) ∧
      (present = true → s.trc.outMag.state ≠ .absent → t.trc = s.trc ∧ t.rm = s.rm ∧ t.pnc = s.pnc) ∧
      (present = false → s.trc.outMag.state = .absent → t.trc = s.trc ∧ t.rm = s.rm ∧ t.pnc = s.pnc) ∧
      t.trc.inMag = s.trc.inMag ∧ t.trc.store = s.trc.store ∧ t.cmc.mode = s.cmc.mode ∧ t.cmc.hold = s.cmc.hold ∧
      t.rs = s.rs ∧ t.heads = s.heads ∧ t.stu = s.stu ∧ t.psc = s.psc ∧ t.pending = s.pending

/-! ## Whole-machine rules -/

/-- Every step, from every state, keeps the rules of Safety.lean: never RUN with the quality hold set (R186), HALT
whenever its input is asserted (R182), the link's queues within 4 frames and 16 notices (R196, R199), and a loaded layout
in the ranges of R5, band columns included; and it leaves the commands behind the front one waiting. -/
def Obligations.EveryStepKeepsTheRules : Prop :=
  ∀ s t : State, step s = .next t →
    (s.holdRule = true → t.holdRule = true) ∧ (s.haltRule = true → t.haltRule = true) ∧
      (s.queueRule = true → t.queueRule = true) ∧ (s.layoutRule → t.layoutRule) ∧ t.pending = s.pending.drop 1

/-- Only CLEAR_CONDITIONS and the resets clear a condition (R189): no other request that finds the link free, no request
behind a full link, no command of the panel, the heads, the track, the drives or the pull station, no input's level, no
step of the part's own, and no byte received or frame sent, unless a CLEAR_CONDITIONS frame is waiting or comes to be. -/
def Obligations.ConditionsAreSticky : Prop :=
  ∀ (c : Instr) (s t : State), (∀ p, c ≠ .powerOnReset p) → c ≠ .warmRestartReset →
    (∀ f, c.frame = some f → f.code ≠ 0x10#8) → (∀ f ∈ s.link.rxQueue, f.code ≠ 0x10#8) →
    (∀ (b : Byte) (len : Nat) (code : Byte) (bytes : List Byte) (high : Option Byte), c = .linkByteReceived b true →
      s.link.rx = .crc len (code :: bytes) high → code ≠ 0x10#8) →
    exec c s = .next t →
    ∀ i < 22, s.cmc.conditions.getLsbD i = true → t.cmc.conditions.getLsbD i = true
end

