-- ==== Sys2Proof/Laws/State.lean ====
section
/-! SUPPORT. One lemma per field per update of State, true by rfl, for the updates of Machine/Ops.lean. -/

namespace Sys2Proof.Machine

open Sys2Proof

/-! ## setCmc -/

@[simp] theorem State.setCmc_cmc (s : State) (x : Cmc) : (s.setCmc x).cmc = x := rfl
@[simp] theorem State.setCmc_rs (s : State) (x : Cmc) : (s.setCmc x).rs = s.rs := rfl
@[simp] theorem State.setCmc_heads (s : State) (x : Cmc) : (s.setCmc x).heads = s.heads := rfl
@[simp] theorem State.setCmc_stu (s : State) (x : Cmc) : (s.setCmc x).stu = s.stu := rfl
@[simp] theorem State.setCmc_trc (s : State) (x : Cmc) : (s.setCmc x).trc = s.trc := rfl
@[simp] theorem State.setCmc_dlc (s : State) (x : Cmc) : (s.setCmc x).dlc = s.dlc := rfl
@[simp] theorem State.setCmc_psc (s : State) (x : Cmc) : (s.setCmc x).psc = s.psc := rfl
@[simp] theorem State.setCmc_rm (s : State) (x : Cmc) : (s.setCmc x).rm = s.rm := rfl
@[simp] theorem State.setCmc_pnc (s : State) (x : Cmc) : (s.setCmc x).pnc = s.pnc := rfl
@[simp] theorem State.setCmc_link (s : State) (x : Cmc) : (s.setCmc x).link = s.link := rfl
@[simp] theorem State.setCmc_pending (s : State) (x : Cmc) : (s.setCmc x).pending = s.pending := rfl
@[simp] theorem State.setCmc_head (s : State) (x : Cmc) (h : HeadId) : (s.setCmc x).head h = s.head h := rfl

/-! ## setRs -/

@[simp] theorem State.setRs_cmc (s : State) (x : RecipeStore) : (s.setRs x).cmc = s.cmc := rfl
@[simp] theorem State.setRs_rs (s : State) (x : RecipeStore) : (s.setRs x).rs = x := rfl
@[simp] theorem State.setRs_heads (s : State) (x : RecipeStore) : (s.setRs x).heads = s.heads := rfl
@[simp] theorem State.setRs_stu (s : State) (x : RecipeStore) : (s.setRs x).stu = s.stu := rfl
@[simp] theorem State.setRs_trc (s : State) (x : RecipeStore) : (s.setRs x).trc = s.trc := rfl
@[simp] theorem State.setRs_dlc (s : State) (x : RecipeStore) : (s.setRs x).dlc = s.dlc := rfl
@[simp] theorem State.setRs_psc (s : State) (x : RecipeStore) : (s.setRs x).psc = s.psc := rfl
@[simp] theorem State.setRs_rm (s : State) (x : RecipeStore) : (s.setRs x).rm = s.rm := rfl
@[simp] theorem State.setRs_pnc (s : State) (x : RecipeStore) : (s.setRs x).pnc = s.pnc := rfl
@[simp] theorem State.setRs_link (s : State) (x : RecipeStore) : (s.setRs x).link = s.link := rfl
@[simp] theorem State.setRs_pending (s : State) (x : RecipeStore) : (s.setRs x).pending = s.pending := rfl
@[simp] theorem State.setRs_head (s : State) (x : RecipeStore) (h : HeadId) : (s.setRs x).head h = s.head h := rfl

/-! ## setHeads -/

@[simp] theorem State.setHeads_cmc (s : State) (x : PerHead Head) : (s.setHeads x).cmc = s.cmc := rfl
@[simp] theorem State.setHeads_rs (s : State) (x : PerHead Head) : (s.setHeads x).rs = s.rs := rfl
@[simp] theorem State.setHeads_heads (s : State) (x : PerHead Head) : (s.setHeads x).heads = x := rfl
@[simp] theorem State.setHeads_stu (s : State) (x : PerHead Head) : (s.setHeads x).stu = s.stu := rfl
@[simp] theorem State.setHeads_trc (s : State) (x : PerHead Head) : (s.setHeads x).trc = s.trc := rfl
@[simp] theorem State.setHeads_dlc (s : State) (x : PerHead Head) : (s.setHeads x).dlc = s.dlc := rfl
@[simp] theorem State.setHeads_psc (s : State) (x : PerHead Head) : (s.setHeads x).psc = s.psc := rfl
@[simp] theorem State.setHeads_rm (s : State) (x : PerHead Head) : (s.setHeads x).rm = s.rm := rfl
@[simp] theorem State.setHeads_pnc (s : State) (x : PerHead Head) : (s.setHeads x).pnc = s.pnc := rfl
@[simp] theorem State.setHeads_link (s : State) (x : PerHead Head) : (s.setHeads x).link = s.link := rfl
@[simp] theorem State.setHeads_pending (s : State) (x : PerHead Head) : (s.setHeads x).pending = s.pending := rfl

/-! ## setStu -/

@[simp] theorem State.setStu_cmc (s : State) (x : Stu) : (s.setStu x).cmc = s.cmc := rfl
@[simp] theorem State.setStu_rs (s : State) (x : Stu) : (s.setStu x).rs = s.rs := rfl
@[simp] theorem State.setStu_heads (s : State) (x : Stu) : (s.setStu x).heads = s.heads := rfl
@[simp] theorem State.setStu_stu (s : State) (x : Stu) : (s.setStu x).stu = x := rfl
@[simp] theorem State.setStu_trc (s : State) (x : Stu) : (s.setStu x).trc = s.trc := rfl
@[simp] theorem State.setStu_dlc (s : State) (x : Stu) : (s.setStu x).dlc = s.dlc := rfl
@[simp] theorem State.setStu_psc (s : State) (x : Stu) : (s.setStu x).psc = s.psc := rfl
@[simp] theorem State.setStu_rm (s : State) (x : Stu) : (s.setStu x).rm = s.rm := rfl
@[simp] theorem State.setStu_pnc (s : State) (x : Stu) : (s.setStu x).pnc = s.pnc := rfl
@[simp] theorem State.setStu_link (s : State) (x : Stu) : (s.setStu x).link = s.link := rfl
@[simp] theorem State.setStu_pending (s : State) (x : Stu) : (s.setStu x).pending = s.pending := rfl
@[simp] theorem State.setStu_head (s : State) (x : Stu) (h : HeadId) : (s.setStu x).head h = s.head h := rfl

/-! ## setTrc -/

@[simp] theorem State.setTrc_cmc (s : State) (x : Trc) : (s.setTrc x).cmc = s.cmc := rfl
@[simp] theorem State.setTrc_rs (s : State) (x : Trc) : (s.setTrc x).rs = s.rs := rfl
@[simp] theorem State.setTrc_heads (s : State) (x : Trc) : (s.setTrc x).heads = s.heads := rfl
@[simp] theorem State.setTrc_stu (s : State) (x : Trc) : (s.setTrc x).stu = s.stu := rfl
@[simp] theorem State.setTrc_trc (s : State) (x : Trc) : (s.setTrc x).trc = x := rfl
@[simp] theorem State.setTrc_dlc (s : State) (x : Trc) : (s.setTrc x).dlc = s.dlc := rfl
@[simp] theorem State.setTrc_psc (s : State) (x : Trc) : (s.setTrc x).psc = s.psc := rfl
@[simp] theorem State.setTrc_rm (s : State) (x : Trc) : (s.setTrc x).rm = s.rm := rfl
@[simp] theorem State.setTrc_pnc (s : State) (x : Trc) : (s.setTrc x).pnc = s.pnc := rfl
@[simp] theorem State.setTrc_link (s : State) (x : Trc) : (s.setTrc x).link = s.link := rfl
@[simp] theorem State.setTrc_pending (s : State) (x : Trc) : (s.setTrc x).pending = s.pending := rfl
@[simp] theorem State.setTrc_head (s : State) (x : Trc) (h : HeadId) : (s.setTrc x).head h = s.head h := rfl

/-! ## setDlc -/

@[simp] theorem State.setDlc_cmc (s : State) (x : Dlc) : (s.setDlc x).cmc = s.cmc := rfl
@[simp] theorem State.setDlc_rs (s : State) (x : Dlc) : (s.setDlc x).rs = s.rs := rfl
@[simp] theorem State.setDlc_heads (s : State) (x : Dlc) : (s.setDlc x).heads = s.heads := rfl
@[simp] theorem State.setDlc_stu (s : State) (x : Dlc) : (s.setDlc x).stu = s.stu := rfl
@[simp] theorem State.setDlc_trc (s : State) (x : Dlc) : (s.setDlc x).trc = s.trc := rfl
@[simp] theorem State.setDlc_dlc (s : State) (x : Dlc) : (s.setDlc x).dlc = x := rfl
@[simp] theorem State.setDlc_psc (s : State) (x : Dlc) : (s.setDlc x).psc = s.psc := rfl
@[simp] theorem State.setDlc_rm (s : State) (x : Dlc) : (s.setDlc x).rm = s.rm := rfl
@[simp] theorem State.setDlc_pnc (s : State) (x : Dlc) : (s.setDlc x).pnc = s.pnc := rfl
@[simp] theorem State.setDlc_link (s : State) (x : Dlc) : (s.setDlc x).link = s.link := rfl
@[simp] theorem State.setDlc_pending (s : State) (x : Dlc) : (s.setDlc x).pending = s.pending := rfl
@[simp] theorem State.setDlc_head (s : State) (x : Dlc) (h : HeadId) : (s.setDlc x).head h = s.head h := rfl

/-! ## setPsc -/

@[simp] theorem State.setPsc_cmc (s : State) (x : Psc) : (s.setPsc x).cmc = s.cmc := rfl
@[simp] theorem State.setPsc_rs (s : State) (x : Psc) : (s.setPsc x).rs = s.rs := rfl
@[simp] theorem State.setPsc_heads (s : State) (x : Psc) : (s.setPsc x).heads = s.heads := rfl
@[simp] theorem State.setPsc_stu (s : State) (x : Psc) : (s.setPsc x).stu = s.stu := rfl
@[simp] theorem State.setPsc_trc (s : State) (x : Psc) : (s.setPsc x).trc = s.trc := rfl
@[simp] theorem State.setPsc_dlc (s : State) (x : Psc) : (s.setPsc x).dlc = s.dlc := rfl
@[simp] theorem State.setPsc_psc (s : State) (x : Psc) : (s.setPsc x).psc = x := rfl
@[simp] theorem State.setPsc_rm (s : State) (x : Psc) : (s.setPsc x).rm = s.rm := rfl
@[simp] theorem State.setPsc_pnc (s : State) (x : Psc) : (s.setPsc x).pnc = s.pnc := rfl
@[simp] theorem State.setPsc_link (s : State) (x : Psc) : (s.setPsc x).link = s.link := rfl
@[simp] theorem State.setPsc_pending (s : State) (x : Psc) : (s.setPsc x).pending = s.pending := rfl
@[simp] theorem State.setPsc_head (s : State) (x : Psc) (h : HeadId) : (s.setPsc x).head h = s.head h := rfl

/-! ## setRm -/

@[simp] theorem State.setRm_cmc (s : State) (x : Rm) : (s.setRm x).cmc = s.cmc := rfl
@[simp] theorem State.setRm_rs (s : State) (x : Rm) : (s.setRm x).rs = s.rs := rfl
@[simp] theorem State.setRm_heads (s : State) (x : Rm) : (s.setRm x).heads = s.heads := rfl
@[simp] theorem State.setRm_stu (s : State) (x : Rm) : (s.setRm x).stu = s.stu := rfl
@[simp] theorem State.setRm_trc (s : State) (x : Rm) : (s.setRm x).trc = s.trc := rfl
@[simp] theorem State.setRm_dlc (s : State) (x : Rm) : (s.setRm x).dlc = s.dlc := rfl
@[simp] theorem State.setRm_psc (s : State) (x : Rm) : (s.setRm x).psc = s.psc := rfl
@[simp] theorem State.setRm_rm (s : State) (x : Rm) : (s.setRm x).rm = x := rfl
@[simp] theorem State.setRm_pnc (s : State) (x : Rm) : (s.setRm x).pnc = s.pnc := rfl
@[simp] theorem State.setRm_link (s : State) (x : Rm) : (s.setRm x).link = s.link := rfl
@[simp] theorem State.setRm_pending (s : State) (x : Rm) : (s.setRm x).pending = s.pending := rfl
@[simp] theorem State.setRm_head (s : State) (x : Rm) (h : HeadId) : (s.setRm x).head h = s.head h := rfl

/-! ## setPnc -/

@[simp] theorem State.setPnc_cmc (s : State) (x : Pnc) : (s.setPnc x).cmc = s.cmc := rfl
@[simp] theorem State.setPnc_rs (s : State) (x : Pnc) : (s.setPnc x).rs = s.rs := rfl
@[simp] theorem State.setPnc_heads (s : State) (x : Pnc) : (s.setPnc x).heads = s.heads := rfl
@[simp] theorem State.setPnc_stu (s : State) (x : Pnc) : (s.setPnc x).stu = s.stu := rfl
@[simp] theorem State.setPnc_trc (s : State) (x : Pnc) : (s.setPnc x).trc = s.trc := rfl
@[simp] theorem State.setPnc_dlc (s : State) (x : Pnc) : (s.setPnc x).dlc = s.dlc := rfl
@[simp] theorem State.setPnc_psc (s : State) (x : Pnc) : (s.setPnc x).psc = s.psc := rfl
@[simp] theorem State.setPnc_rm (s : State) (x : Pnc) : (s.setPnc x).rm = s.rm := rfl
@[simp] theorem State.setPnc_pnc (s : State) (x : Pnc) : (s.setPnc x).pnc = x := rfl
@[simp] theorem State.setPnc_link (s : State) (x : Pnc) : (s.setPnc x).link = s.link := rfl
@[simp] theorem State.setPnc_pending (s : State) (x : Pnc) : (s.setPnc x).pending = s.pending := rfl
@[simp] theorem State.setPnc_head (s : State) (x : Pnc) (h : HeadId) : (s.setPnc x).head h = s.head h := rfl

/-! ## setLink -/

@[simp] theorem State.setLink_cmc (s : State) (x : Link) : (s.setLink x).cmc = s.cmc := rfl
@[simp] theorem State.setLink_rs (s : State) (x : Link) : (s.setLink x).rs = s.rs := rfl
@[simp] theorem State.setLink_heads (s : State) (x : Link) : (s.setLink x).heads = s.heads := rfl
@[simp] theorem State.setLink_stu (s : State) (x : Link) : (s.setLink x).stu = s.stu := rfl
@[simp] theorem State.setLink_trc (s : State) (x : Link) : (s.setLink x).trc = s.trc := rfl
@[simp] theorem State.setLink_dlc (s : State) (x : Link) : (s.setLink x).dlc = s.dlc := rfl
@[simp] theorem State.setLink_psc (s : State) (x : Link) : (s.setLink x).psc = s.psc := rfl
@[simp] theorem State.setLink_rm (s : State) (x : Link) : (s.setLink x).rm = s.rm := rfl
@[simp] theorem State.setLink_pnc (s : State) (x : Link) : (s.setLink x).pnc = s.pnc := rfl
@[simp] theorem State.setLink_link (s : State) (x : Link) : (s.setLink x).link = x := rfl
@[simp] theorem State.setLink_pending (s : State) (x : Link) : (s.setLink x).pending = s.pending := rfl
@[simp] theorem State.setLink_head (s : State) (x : Link) (h : HeadId) : (s.setLink x).head h = s.head h := rfl

/-! ## setHead -/

@[simp] theorem State.setHead_cmc (s : State) (h : HeadId) (x : Head) : (s.setHead h x).cmc = s.cmc := rfl
@[simp] theorem State.setHead_rs (s : State) (h : HeadId) (x : Head) : (s.setHead h x).rs = s.rs := rfl
@[simp] theorem State.setHead_heads (s : State) (h : HeadId) (x : Head) : (s.setHead h x).heads = s.heads.set h x := rfl
@[simp] theorem State.setHead_stu (s : State) (h : HeadId) (x : Head) : (s.setHead h x).stu = s.stu := rfl
@[simp] theorem State.setHead_trc (s : State) (h : HeadId) (x : Head) : (s.setHead h x).trc = s.trc := rfl
@[simp] theorem State.setHead_dlc (s : State) (h : HeadId) (x : Head) : (s.setHead h x).dlc = s.dlc := rfl
@[simp] theorem State.setHead_psc (s : State) (h : HeadId) (x : Head) : (s.setHead h x).psc = s.psc := rfl
@[simp] theorem State.setHead_rm (s : State) (h : HeadId) (x : Head) : (s.setHead h x).rm = s.rm := rfl
@[simp] theorem State.setHead_pnc (s : State) (h : HeadId) (x : Head) : (s.setHead h x).pnc = s.pnc := rfl
@[simp] theorem State.setHead_link (s : State) (h : HeadId) (x : Head) : (s.setHead h x).link = s.link := rfl
@[simp] theorem State.setHead_pending (s : State) (h : HeadId) (x : Head) : (s.setHead h x).pending = s.pending := rfl

@[simp] theorem State.setHead_head (s : State) (h : HeadId) (x : Head) : (s.setHead h x).head h = x := by cases h <;> rfl
theorem State.setHead_head_other (s : State) (h k : HeadId) (x : Head) (hk : k ≠ h) : (s.setHead h x).head k = s.head k := by
  cases h <;> cases k <;> first | rfl | exact absurd rfl hk

/-! ## setRegion -/

@[simp] theorem State.setRegion_cmc (s : State) (i : RegionId) (x : Region) : (s.setRegion i x).cmc = s.cmc := rfl
@[simp] theorem State.setRegion_rs (s : State) (i : RegionId) (x : Region) : (s.setRegion i x).rs = s.rs := rfl
@[simp] theorem State.setRegion_heads (s : State) (i : RegionId) (x : Region) : (s.setRegion i x).heads = s.heads := rfl
@[simp] theorem State.setRegion_stu (s : State) (i : RegionId) (x : Region) : (s.setRegion i x).stu = s.stu := rfl
@[simp] theorem State.setRegion_trc (s : State) (i : RegionId) (x : Region) : (s.setRegion i x).trc = s.trc := rfl
@[simp] theorem State.setRegion_dlc (s : State) (i : RegionId) (x : Region) : (s.setRegion i x).dlc = s.dlc := rfl
@[simp] theorem State.setRegion_psc (s : State) (i : RegionId) (x : Region) : (s.setRegion i x).psc = s.psc := rfl
@[simp] theorem State.setRegion_rm (s : State) (i : RegionId) (x : Region) : (s.setRegion i x).rm = s.rm.set i x := rfl
@[simp] theorem State.setRegion_pnc (s : State) (i : RegionId) (x : Region) : (s.setRegion i x).pnc = s.pnc := rfl
@[simp] theorem State.setRegion_link (s : State) (i : RegionId) (x : Region) : (s.setRegion i x).link = s.link := rfl
@[simp] theorem State.setRegion_pending (s : State) (i : RegionId) (x : Region) : (s.setRegion i x).pending = s.pending := rfl
@[simp] theorem State.setRegion_head (s : State) (i : RegionId) (x : Region) (h : HeadId) :
    (s.setRegion i x).head h = s.head h := rfl
theorem Rm.get_set (r : Rm) (i : RegionId) (x : Region) : (r.set i x).get i = x := by cases i <;> rfl

/-! ## setDrive -/

@[simp] theorem State.setDrive_cmc (s : State) (d : Drive) (x : DriveState) : (s.setDrive d x).cmc = s.cmc := rfl
@[simp] theorem State.setDrive_rs (s : State) (d : Drive) (x : DriveState) : (s.setDrive d x).rs = s.rs := rfl
@[simp] theorem State.setDrive_heads (s : State) (d : Drive) (x : DriveState) : (s.setDrive d x).heads = s.heads := rfl
@[simp] theorem State.setDrive_stu (s : State) (d : Drive) (x : DriveState) : (s.setDrive d x).stu = s.stu := rfl
@[simp] theorem State.setDrive_trc (s : State) (d : Drive) (x : DriveState) : (s.setDrive d x).trc = s.trc := rfl
@[simp] theorem State.setDrive_dlc (s : State) (d : Drive) (x : DriveState) : (s.setDrive d x).dlc = { s.dlc with drives := s.dlc.drives.set d x } := rfl
@[simp] theorem State.setDrive_psc (s : State) (d : Drive) (x : DriveState) : (s.setDrive d x).psc = s.psc := rfl
@[simp] theorem State.setDrive_rm (s : State) (d : Drive) (x : DriveState) : (s.setDrive d x).rm = s.rm := rfl
@[simp] theorem State.setDrive_pnc (s : State) (d : Drive) (x : DriveState) : (s.setDrive d x).pnc = s.pnc := rfl
@[simp] theorem State.setDrive_link (s : State) (d : Drive) (x : DriveState) : (s.setDrive d x).link = s.link := rfl
@[simp] theorem State.setDrive_pending (s : State) (d : Drive) (x : DriveState) : (s.setDrive d x).pending = s.pending := rfl
@[simp] theorem State.setDrive_head (s : State) (d : Drive) (x : DriveState) (h : HeadId) :
    (s.setDrive d x).head h = s.head h := rfl
theorem PerDrive.get_set {α : Type} (p : PerDrive α) (d : Drive) (x : α) : (p.set d x).get d = x := by cases d <;> rfl
theorem PerDrive.get_set_other {α : Type} (p : PerDrive α) (d e : Drive) (x : α) (h : e ≠ d) :
    (p.set d x).get e = p.get e := by
  cases d <;> cases e <;> first | rfl | exact absurd rfl h

end Sys2Proof.Machine
end

