-- ==== Sys2Proof/Laws/Quiet.lean ====
section
/-! SUPPORT. What the blocks' internal operations leave alone. The quiet view of a state is what no internal operation short
of a change of mode, a quality hold or a lot close touches; one equation per operation says so, and the equations compose by
simp. -/

namespace Sys2Proof.Machine

open Sys2Proof

/-- The notice queue holds no more than its room (R199). -/
def State.noticesFit (s : State) : Bool := decide (s.link.notices.length ≤ Config.noticeQueueSize)

/-- The panel without its prompts and its tone. -/
def Pnc.still (p : Pnc) : Pnc :=
  { p with prompts := [], nextRaise := 0, toneTimer := none, toneHigh := false, silenced := false, chirp := false }

/-- The quiet view: the CMC without its conditions, the Recipe Store, the panel's screens and timing, the link without its
notices, whether the notices fit, and the queue of commands. -/
def State.quiet (s : State) : Cmc × RecipeStore × Pnc × Link × Bool × List Instr :=
  ({ s.cmc with conditions := 0 }, s.rs, s.pnc.still, { s.link with notices := [] }, s.noticesFit, s.pending)

/-! ## Updates -/

@[simp] theorem State.setHeads_quiet (s : State) (x : PerHead Head) : (s.setHeads x).quiet = s.quiet := rfl
@[simp] theorem State.setStu_quiet (s : State) (x : Stu) : (s.setStu x).quiet = s.quiet := rfl
@[simp] theorem State.setTrc_quiet (s : State) (x : Trc) : (s.setTrc x).quiet = s.quiet := rfl
@[simp] theorem State.setDlc_quiet (s : State) (x : Dlc) : (s.setDlc x).quiet = s.quiet := rfl
@[simp] theorem State.setPsc_quiet (s : State) (x : Psc) : (s.setPsc x).quiet = s.quiet := rfl
@[simp] theorem State.setRm_quiet (s : State) (x : Rm) : (s.setRm x).quiet = s.quiet := rfl
@[simp] theorem State.setHead_quiet (s : State) (h : HeadId) (x : Head) : (s.setHead h x).quiet = s.quiet := rfl
@[simp] theorem State.setRegion_quiet (s : State) (i : RegionId) (x : Region) : (s.setRegion i x).quiet = s.quiet := rfl
@[simp] theorem State.setDrive_quiet (s : State) (d : Drive) (x : DriveState) : (s.setDrive d x).quiet = s.quiet := rfl

theorem State.setPnc_quiet (s : State) (x : Pnc) (h : x.still = s.pnc.still) : (s.setPnc x).quiet = s.quiet := by
  show (_, _, x.still, _, _, _) = _
  rw [h]; rfl

@[simp] theorem Pnc.refreshTone_still (p : Pnc) : p.refreshTone.still = p.still := by
  unfold Pnc.refreshTone; (repeat' split) <;> rfl

/-! ## What equal quiet views give -/

theorem State.quiet_mode {s t : State} (h : t.quiet = s.quiet) : t.cmc.mode = s.cmc.mode := congrArg (·.1.mode) h
theorem State.quiet_hold {s t : State} (h : t.quiet = s.quiet) : t.cmc.hold = s.cmc.hold := congrArg (·.1.hold) h
theorem State.quiet_lot {s t : State} (h : t.quiet = s.quiet) : t.cmc.lot = s.cmc.lot := congrArg (·.1.lot) h
theorem State.quiet_haltInput {s t : State} (h : t.quiet = s.quiet) : t.cmc.haltInput = s.cmc.haltInput :=
  congrArg (·.1.haltInput) h
theorem State.quiet_cellTime {s t : State} (h : t.quiet = s.quiet) : t.cmc.cellTime = s.cmc.cellTime :=
  congrArg (·.1.cellTime) h
theorem State.quiet_rs {s t : State} (h : t.quiet = s.quiet) : t.rs = s.rs := congrArg (·.2.1) h
theorem State.quiet_rxQueue {s t : State} (h : t.quiet = s.quiet) : t.link.rxQueue = s.link.rxQueue :=
  congrArg (·.2.2.2.1.rxQueue) h
theorem State.quiet_reply {s t : State} (h : t.quiet = s.quiet) : t.link.reply = s.link.reply :=
  congrArg (·.2.2.2.1.reply) h
theorem State.quiet_tx {s t : State} (h : t.quiet = s.quiet) : t.link.tx = s.link.tx := congrArg (·.2.2.2.1.tx) h
theorem State.quiet_restart {s t : State} (h : t.quiet = s.quiet) : t.link.restart = s.link.restart :=
  congrArg (·.2.2.2.1.restart) h
theorem State.quiet_rx {s t : State} (h : t.quiet = s.quiet) : t.link.rx = s.link.rx := congrArg (·.2.2.2.1.rx) h
theorem State.quiet_fits {s t : State} (h : t.quiet = s.quiet) : t.noticesFit = s.noticesFit := congrArg (·.2.2.2.2.1) h
theorem State.quiet_pending {s t : State} (h : t.quiet = s.quiet) : t.pending = s.pending := congrArg (·.2.2.2.2.2) h

/-! ## Shared operations (Ops) -/

@[simp] theorem State.handNotice_quiet (s : State) (n : Notice) : (s.handNotice n).quiet = s.quiet := by
  unfold State.handNotice
  split
  · simp_all [State.quiet, State.noticesFit]; omega
  · rfl

@[simp] theorem State.setCondition_quiet (s : State) (c : Condition) : (s.setCondition c).quiet = s.quiet := by
  have h (x : BitVec 22) : (s.setCmc { s.cmc with conditions := x }).quiet = s.quiet := rfl
  simp only [State.setCondition]
  (repeat' split) <;> simp [h]

theorem State.setPrompts_quiet (s : State) (x : Pnc) (h : x.still = s.pnc.still) :
    (s.setPnc x.refreshTone).quiet = s.quiet := s.setPnc_quiet _ (by simp [h])

@[simp] theorem State.chirp_quiet (s : State) : (s.chirp).quiet = s.quiet := s.setPrompts_quiet _ rfl
@[simp] theorem State.raiseNote_quiet (s : State) (kind : PromptKind) (source : Nat) (severity : Severity) (arg : Nat)
    (text : List Byte) : (s.raiseNote kind source severity arg text).quiet = s.quiet := by
  unfold State.raiseNote
  split
  · rfl
  · simp only [State.handNotice_quiet]; exact s.setPrompts_quiet _ rfl
@[simp] theorem State.removePrompt_quiet (s : State) (kind : PromptKind) (source : Nat) :
    (s.removePrompt kind source).quiet = s.quiet := by
  unfold State.removePrompt
  split
  · rfl
  · simp only [State.handNotice_quiet]; exact s.setPrompts_quiet _ rfl

@[simp] theorem State.watermarkRise_quiet (s : State) (i : RegionId) :
    (s.watermarkRise i).quiet = s.quiet := by
  simp only [State.watermarkRise]
  (repeat' split) <;> simp
@[simp] theorem State.commit_quiet (s : State) (i : RegionId) (mk : Nat → Record) :
    (s.commit i mk).quiet = s.quiet := by
  simp only [State.commit]
  simp
@[simp] theorem State.writeEvent_quiet (s : State) (code : EventCode) (source arg : Nat) :
    (s.writeEvent code source arg).quiet = s.quiet := by
  simp only [State.writeEvent]
  (repeat' split) <;> simp
@[simp] theorem State.reserve_quiet (s : State) (i : RegionId) : (s.reserve i).1.quiet = s.quiet := by
  simp only [State.reserve]; split <;> simp
@[simp] theorem State.raisePrompt_quiet (s : State) (kind : PromptKind) (source arg : Nat) :
    (s.raisePrompt kind source arg).quiet = s.quiet := by
  simp only [State.raisePrompt]
  simp
@[simp] theorem State.testHeadGates_quiet (s : State) (h : HeadId) :
    (s.testHeadGates h).quiet = s.quiet := by
  simp only [State.testHeadGates]
  (repeat' split) <;> simp
@[simp] theorem State.testBothHeads_quiet (s : State) :
    s.testBothHeads.quiet = s.quiet := by
  simp only [State.testBothHeads]
  simp
@[simp] theorem State.testFeed_quiet (s : State) :
    s.testFeed.quiet = s.quiet := by
  simp only [State.testFeed]
  (repeat' split) <;> simp
@[simp] theorem State.testPullGates_quiet (s : State) :
    s.testPullGates.quiet = s.quiet := by
  simp only [State.testPullGates]
  (repeat' split) <;> simp
@[simp] theorem State.roomNotice_quiet (s : State) (i : RegionId) :
    (s.roomNotice i).quiet = s.quiet := by
  simp only [State.roomNotice]
  (repeat' split) <;> simp
@[simp] theorem State.roomFell_quiet (s : State) (i : RegionId) :
    (s.roomFell i).quiet = s.quiet := by
  simp only [State.roomFell]
  (repeat' split) <;> simp
@[simp] theorem State.returnReservation_quiet (s : State) (i : RegionId) :
    (s.returnReservation i).quiet = s.quiet := by
  simp only [State.returnReservation]
  simp
@[simp] theorem State.handOver_quiet (s : State) (d : Drive) (op : DriveOp) :
    (s.handOver d op).quiet = s.quiet := by
  simp only [State.handOver]
  simp

/-! ## The STU and the head's side of it (Units) -/

@[simp] theorem State.updateStrip_quiet (s : State) (serial : Nat) (f : StripRecord → StripRecord) :
    (s.updateStrip serial f).quiet = s.quiet := by
  simp only [State.updateStrip]
  simp
@[simp] theorem State.moveUnit_quiet (s : State) (u : UnitRef) (source target : UnitState) :
    (s.moveUnit u source target).quiet = s.quiet := by
  simp only [State.moveUnit]
  simp
@[simp] theorem State.suspend_quiet (s : State) (h : HeadId) (why : Reason) :
    (s.suspend h why).quiet = s.quiet := by
  simp only [State.suspend]
  simp
@[simp] theorem State.giveUnit_quiet (s : State) (h : HeadId) (u : UnitRef) :
    (s.giveUnit h u).quiet = s.quiet := by
  simp only [State.giveUnit]
  simp
@[simp] theorem State.askWork_quiet (s : State) (h : HeadId) :
    (s.askWork h).quiet = s.quiet := by
  simp only [State.askWork]
  (repeat' split) <;> simp
@[simp] theorem State.enterIdle_quiet (s : State) (h : HeadId) :
    (s.enterIdle h).quiet = s.quiet := by
  simp only [State.enterIdle]
  (repeat' split) <;> simp
@[simp] theorem State.askIfIdle_quiet (s : State) (h : HeadId) :
    (s.askIfIdle h).quiet = s.quiet := by
  simp only [State.askIfIdle]
  (repeat' split) <;> simp
@[simp] theorem State.endRequest_quiet (s : State) (h : HeadId) :
    (s.endRequest h).quiet = s.quiet := by
  simp only [State.endRequest]
  (repeat' split) <;> simp
@[simp] theorem State.endRequests_quiet (s : State) :
    s.endRequests.quiet = s.quiet := by
  simp only [State.endRequests]
  simp
@[simp] theorem State.grantBand_quiet (s : State) (h : HeadId) (u : UnitRef) :
    (s.grantBand h u).quiet = s.quiet := by
  simp only [State.grantBand]
  simp
@[simp] theorem State.decideBand_quiet (s : State) :
    s.decideBand.quiet = s.quiet := by
  simp only [State.decideBand]
  (repeat' split) <;> simp
@[simp] theorem State.testBondCompletion_quiet (s : State) :
    s.testBondCompletion.quiet = s.quiet := by
  simp only [State.testBondCompletion]
  (repeat' split) <;> simp
@[simp] theorem State.createRecord_quiet (s : State) (mag slot : Nat) (bad : Option (BitVec 192)) :
    (s.createRecord mag slot bad).quiet = s.quiet := rfl
@[simp] theorem State.unitOutcome_quiet (s : State) (h : HeadId) (outcome : UnitState) :
    (s.unitOutcome h outcome).quiet = s.quiet := by
  simp only [State.unitOutcome]
  (repeat' split) <;> simp
@[simp] theorem State.wireEndReport_quiet (s : State) (strip : Nat) (outcome : WireOutcome) :
    (s.wireEndReport strip outcome).quiet = s.quiet := by
  simp only [State.wireEndReport]
  (repeat' split) <;> simp
@[simp] theorem State.marginalReport_quiet (s : State) (u : UnitRef) (wire : Nat) :
    (s.marginalReport u wire).quiet = s.quiet := by
  simp only [State.marginalReport]
  simp
@[simp] theorem State.pulledReport_quiet (s : State) (strip : Nat) (e : PullEntry) :
    (s.pulledReport strip e).quiet = s.quiet := by
  simp only [State.pulledReport]
  simp
@[simp] theorem State.indexReport_quiet (s : State) :
    s.indexReport.quiet = s.quiet := by
  simp only [State.indexReport]
  (repeat' split) <;> simp

/-! ## The heads (Heads) -/

@[simp] theorem State.judgeCap_quiet (s : State) (h : HeadId) :
    (s.judgeCap h).quiet = s.quiet := by
  simp only [State.judgeCap]
  (repeat' split) <;> simp
@[simp] theorem State.rearmCap_quiet (s : State) (h : HeadId) :
    (s.rearmCap h).quiet = s.quiet := by
  simp only [State.rearmCap]
  simp
@[simp] theorem State.judgeSpool_quiet (s : State) (h : HeadId) :
    (s.judgeSpool h).quiet = s.quiet := by
  simp only [State.judgeSpool]
  (repeat' split) <;> simp
@[simp] theorem State.rearmSpool_quiet (s : State) (h : HeadId) :
    (s.rearmSpool h).quiet = s.quiet := by
  simp only [State.rearmSpool]
  simp
@[simp] theorem State.judgeConsumables_quiet (s : State) (h : HeadId) :
    (s.judgeConsumables h).quiet = s.quiet := by
  simp only [State.judgeConsumables]
  (repeat' split) <;> simp
@[simp] theorem State.endWire_quiet (s : State) (h : HeadId) (outcome : WireOutcome) (setRestart : Bool) (why : Option Reason) :
    (s.endWire h outcome setRestart why).quiet = s.quiet := by
  simp only [State.endWire]
  (repeat' split) <;> simp
@[simp] theorem State.abortWire_quiet (s : State) (h : HeadId) (why : Option Reason) :
    (s.abortWire h why).quiet = s.quiet := by
  simp only [State.abortWire]
  simp
@[simp] theorem State.driveFault_quiet (s : State) (h : HeadId) :
    (s.driveFault h).quiet = s.quiet := by
  simp only [State.driveFault]
  simp
@[simp] theorem State.haltHead_quiet (s : State) (h : HeadId) :
    (s.haltHead h).quiet = s.quiet := by
  simp only [State.haltHead]
  (repeat' split) <;> simp
@[simp] theorem State.wireBreak_quiet (s : State) (h : HeadId) :
    (s.wireBreak h).quiet = s.quiet := by
  simp only [State.wireBreak]
  (repeat' split) <;> simp
@[simp] theorem State.beginOp_quiet (s : State) (h : HeadId) (p : Phase) (op : DriveOp) :
    (s.beginOp h p op).quiet = s.quiet := by
  simp only [State.beginOp]
  (repeat' split) <;> simp
@[simp] theorem State.enterSearch_quiet (s : State) (h : HeadId) (n : Snapshot) (b : Bond) :
    (s.enterSearch h n b).quiet = s.quiet := by
  simp only [State.enterSearch]
  (repeat' split) <;> simp
@[simp] theorem State.enterMove_quiet (s : State) (h : HeadId) (n : Snapshot) :
    (s.enterMove h n).quiet = s.quiet := by
  simp only [State.enterMove]
  simp
@[simp] theorem State.enterLoop_quiet (s : State) (h : HeadId) (n : Snapshot) :
    (s.enterLoop h n).quiet = s.quiet := by
  simp only [State.enterLoop]
  simp
@[simp] theorem State.enterRaise_quiet (s : State) (h : HeadId) :
    (s.enterRaise h).quiet = s.quiet := by
  simp only [State.enterRaise]
  simp
@[simp] theorem State.searchFailed_quiet (s : State) (h : HeadId) (b : Bond) (v : Verdict) :
    (s.searchFailed h b v).quiet = s.quiet := by
  simp only [State.searchFailed]
  simp
@[simp] theorem State.enterWeld_quiet (s : State) (h : HeadId) (n : Snapshot) (b : Bond) :
    (s.enterWeld h n b).quiet = s.quiet := by
  simp only [State.enterWeld]
  (repeat' split) <;> simp
@[simp] theorem State.contact_quiet (s : State) (h : HeadId) (n : Snapshot) (b : Bond) (z : Nat) :
    (s.contact h n b z).quiet = s.quiet := by
  simp only [State.contact]
  (repeat' split) <;> simp
@[simp] theorem State.weldExpired_quiet (s : State) (h : HeadId) (n : Snapshot) (b : Bond) (z : Nat) :
    (s.weldExpired h n b z).quiet = s.quiet := by
  simp only [State.weldExpired]
  (repeat' split) <;> simp
@[simp] theorem State.enterSpark_quiet (s : State) (h : HeadId) (source : SparkFrom) :
    (s.enterSpark h source).quiet = s.quiet := by
  simp only [State.enterSpark]
  simp
@[simp] theorem State.checkEnded_quiet (s : State) (h : HeadId) (n : Snapshot) (b : Bond) (attached : Bool) :
    (s.checkEnded h n b attached).quiet = s.quiet := by
  simp only [State.checkEnded]
  (repeat' split) <;> simp
@[simp] theorem State.sparkSucceeded_quiet (s : State) (h : HeadId) (n : Snapshot) :
    (s.sparkSucceeded h n).quiet = s.quiet := by
  simp only [State.sparkSucceeded]
  (repeat' split) <;> simp
@[simp] theorem State.restartFailed_quiet (s : State) (h : HeadId) :
    (s.restartFailed h).quiet = s.quiet := by
  simp only [State.restartFailed]
  simp
@[simp] theorem State.sparkOpen_quiet (s : State) (h : HeadId) (n : Snapshot) :
    (s.sparkOpen h n).quiet = s.quiet := by
  simp only [State.sparkOpen]
  (repeat' split) <;> simp
@[simp] theorem State.raiseEnded_quiet (s : State) (h : HeadId) :
    (s.raiseEnded h).quiet = s.quiet := by
  simp only [State.raiseEnded]
  (repeat' split) <;> simp
@[simp] theorem State.searchDone_quiet (s : State) (h : HeadId) (b : Bond) (results : List Byte) :
    (s.searchDone h b results).quiet = s.quiet := by
  simp only [State.searchDone]
  (repeat' split) <;> simp
@[simp] theorem State.phaseDone_quiet (s : State) (h : HeadId) (n : Snapshot) (p : Phase) (results : List Byte) :
    (s.phaseDone h n p results).quiet = s.quiet := by
  simp only [State.phaseDone]
  (repeat' split) <;> simp
@[simp] theorem State.issueHeld_quiet (s : State) (h : HeadId) :
    (s.issueHeld h).quiet = s.quiet := by
  simp only [State.issueHeld]
  (repeat' split) <;> simp
@[simp] theorem State.positionerEnded_quiet (s : State) (h : HeadId) (c : Completion) :
    (s.positionerEnded h c).quiet = s.quiet := by
  simp only [State.positionerEnded]
  (repeat' split) <;> simp
@[simp] theorem State.startWire_quiet (s : State) (h : HeadId) (u : UnitRef) :
    (s.startWire h u).quiet = s.quiet := by
  simp only [State.startWire]
  (repeat' split) <;> simp
@[simp] theorem State.waitForRoom_quiet (s : State) (h : HeadId) : (s.waitForRoom h).quiet = s.quiet := by
  simp [State.waitForRoom]
@[simp] theorem State.askRoom_quiet (s : State) (h : HeadId) (u : UnitRef) :
    (s.askRoom h u).quiet = s.quiet := by
  have hr := s.reserve_quiet (bondRegion h)
  simp only [State.askRoom]
  (repeat' split) <;> simp_all
@[simp] theorem State.tryWire_quiet (s : State) (h : HeadId) (u : UnitRef) :
    (s.tryWire h u).quiet = s.quiet := by
  simp only [State.tryWire]
  split <;> simp
@[simp] theorem State.resumeEffect_quiet (s : State) (h : HeadId) (why : Reason) :
    (s.resumeEffect h why).quiet = s.quiet := by
  simp only [State.resumeEffect]
  (repeat' split) <;> simp
@[simp] theorem State.resume_quiet (s : State) (h : HeadId) (why : Reason) :
    (s.resume h why).quiet = s.quiet := by
  simp only [State.resume]
  (repeat' split) <;> simp

/-! ## The TRC, first part (TrackBase) -/

@[simp] theorem State.joinStopped_quiet (s : State) (i : StopItem) :
    (s.joinStopped i).quiet = s.quiet := by
  simp only [State.joinStopped]
  (repeat' split) <;> simp
@[simp] theorem State.exhaustInput_quiet (s : State) :
    s.exhaustInput.quiet = s.quiet := by
  simp only [State.exhaustInput]
  simp
@[simp] theorem State.scanEnd_quiet (s : State) :
    s.scanEnd.quiet = s.quiet := by
  simp only [State.scanEnd]
  (repeat' split) <;> simp
@[simp] theorem State.issueScan_quiet (s : State) (k : Nat) :
    (s.issueScan k).quiet = s.quiet := by
  simp only [State.issueScan]
  simp
@[simp] theorem State.scanStopped_quiet (s : State) :
    s.scanStopped.quiet = s.quiet := by
  simp only [State.scanStopped]
  simp
@[simp] theorem State.scanOn_quiet (s : State) (k : Nat) :
    (s.scanOn k).quiet = s.quiet := by
  simp only [State.scanOn]
  (repeat' split) <;> simp
@[simp] theorem State.startScan_quiet (s : State) :
    s.startScan.quiet = s.quiet := by
  simp only [State.startScan]
  (repeat' split) <;> simp
@[simp] theorem State.issueHeldScan_quiet (s : State) :
    s.issueHeldScan.quiet = s.quiet := by
  simp only [State.issueHeldScan]
  (repeat' split) <;> simp
@[simp] theorem State.issueSetTemp_quiet (s : State) (setpoint : Nat) :
    (s.issueSetTemp setpoint).quiet = s.quiet := by
  simp only [State.issueSetTemp]
  simp
@[simp] theorem State.sendSetTemp_quiet (s : State) :
    s.sendSetTemp.quiet = s.quiet := by
  simp only [State.sendSetTemp]
  (repeat' split) <;> simp
@[simp] theorem State.tempReport_quiet (s : State) (t : Nat) :
    (s.tempReport t).quiet = s.quiet := by
  simp only [State.tempReport]
  (repeat' split) <;> simp
@[simp] theorem State.trackConfigTaken_quiet (s : State) :
    s.trackConfigTaken.quiet = s.quiet := by
  simp only [State.trackConfigTaken]
  simp
@[simp] theorem State.leaveHaltScan_quiet (s : State) :
    s.leaveHaltScan.quiet = s.quiet := by
  simp only [State.leaveHaltScan]
  (repeat' split) <;> simp
@[simp] theorem State.tellTrack_quiet (s : State) (old new : Mode) :
    (s.tellTrack old new).quiet = s.quiet := by
  simp only [State.tellTrack]
  (repeat' split) <;> simp

/-! ## The CMC (Cell) -/

@[simp] theorem State.tellHead_quiet (s : State) (h : HeadId) :
    (s.tellHead h).quiet = s.quiet := by
  simp only [State.tellHead]
  simp

/-! ## The PSC (Pull) -/

@[simp] theorem State.pullsDone_quiet (s : State) :
    s.pullsDone.quiet = s.quiet := by
  simp only [State.pullsDone]
  simp
@[simp] theorem State.nextPull_quiet (s : State) :
    s.nextPull.quiet = s.quiet := by
  simp only [State.nextPull]
  (repeat' split) <;> simp
@[simp] theorem State.handStrip_quiet (s : State) (serial : Nat) :
    (s.handStrip serial).quiet = s.quiet := by
  simp only [State.handStrip]
  simp
@[simp] theorem State.tryPull_quiet (s : State) (e : PullEntry) :
    (s.tryPull e).quiet = s.quiet := by
  have hr := s.reserve_quiet .pull
  simp only [State.tryPull]
  (repeat' split) <;> simp_all
@[simp] theorem State.advancePull_quiet (s : State) :
    s.advancePull.quiet = s.quiet := by
  simp only [State.advancePull]
  simp
@[simp] theorem State.stage_quiet (s : State) (p : Staged) :
    (s.stage p).quiet = s.quiet := by
  simp only [State.stage]
  (repeat' split) <;> simp
@[simp] theorem State.pullFailed_quiet (s : State) (f : Flight) :
    (s.pullFailed f).quiet = s.quiet := by
  simp only [State.pullFailed]
  simp
@[simp] theorem State.haltPull_quiet (s : State) :
    s.haltPull.quiet = s.quiet := by
  simp only [State.haltPull]
  (repeat' split) <;> simp
@[simp] theorem State.ackPull_quiet (s : State) :
    s.ackPull.quiet = s.quiet := by
  simp only [State.ackPull]
  (repeat' split) <;> simp

/-! ## The TRC, second part (Track) -/

@[simp] theorem State.inputPresence_quiet (s : State) (present : Bool) :
    (s.inputPresence present).quiet = s.quiet := by
  simp only [State.inputPresence]
  (repeat' split) <;> simp
@[simp] theorem State.tryFeed_quiet (s : State) (slot : Nat) :
    (s.tryFeed slot).quiet = s.quiet := by
  have hr := s.reserve_quiet .strip
  simp only [State.tryFeed]
  (repeat' split) <;> simp_all
@[simp] theorem State.scanEnded_quiet (s : State) (c : Completion) :
    (s.scanEnded c).quiet = s.quiet := by
  simp only [State.scanEnded]
  (repeat' split) <;> simp
@[simp] theorem State.outputPromptTest_quiet (s : State) :
    s.outputPromptTest.quiet = s.quiet := by
  simp only [State.outputPromptTest]
  (repeat' split) <;> simp
@[simp] theorem State.outputPresence_quiet (s : State) (present : Bool) :
    (s.outputPresence present).quiet = s.quiet := by
  simp only [State.outputPresence]
  (repeat' split) <;> simp
@[simp] theorem State.useOutSlot_quiet (s : State) (mag slot : Nat) (x : OutSlot) :
    (s.useOutSlot mag slot x).quiet = s.quiet := by
  simp only [State.useOutSlot]
  (repeat' split) <;> simp
@[simp] theorem State.storeLost_quiet (s : State) (mag slot : Nat) (stopped : Bool) :
    (s.storeLost mag slot stopped).quiet = s.quiet := by
  simp only [State.storeLost]
  (repeat' split) <;> simp
@[simp] theorem State.issueStep_quiet (s : State) (step : SeqState) :
    (s.issueStep step).quiet = s.quiet := by
  simp only [State.issueStep]
  simp
@[simp] theorem State.handAtVerify_quiet (s : State) :
    s.handAtVerify.quiet = s.quiet := by
  simp only [State.handAtVerify]
  (repeat' split) <;> simp
@[simp] theorem State.indexed_quiet (s : State) :
    s.indexed.quiet = s.quiet := by
  simp only [State.indexed]
  simp
@[simp] theorem State.trackIdle_quiet (s : State) :
    s.trackIdle.quiet = s.quiet := by
  simp only [State.trackIdle]
  simp
@[simp] theorem State.stepDone_quiet (s : State) (step : SeqState) :
    (s.stepDone step).quiet = s.quiet := by
  simp only [State.stepDone]
  (repeat' split) <;> simp
@[simp] theorem State.abandonSequence_quiet (s : State) :
    s.abandonSequence.quiet = s.quiet := by
  simp only [State.abandonSequence]
  (repeat' split) <;> simp
@[simp] theorem State.indexerEnded_quiet (s : State) (c : Completion) :
    (s.indexerEnded c).quiet = s.quiet := by
  simp only [State.indexerEnded]
  (repeat' split) <;> simp
@[simp] theorem State.startSequence_quiet (s : State) (step : SeqState) :
    (s.startSequence step).quiet = s.quiet := by
  simp only [State.startSequence]
  simp
@[simp] theorem State.workHolderEnded_quiet (s : State) (_c : Completion) :
    (s.workHolderEnded _c).quiet = s.quiet := by
  simp only [State.workHolderEnded]
  (repeat' split) <;> simp
@[simp] theorem State.ackInput_quiet (s : State) :
    s.ackInput.quiet = s.quiet := by
  simp only [State.ackInput]
  (repeat' split) <;> simp
@[simp] theorem State.ackSequence_quiet (s : State) :
    s.ackSequence.quiet = s.quiet := by
  simp only [State.ackSequence]
  (repeat' split) <;> simp
@[simp] theorem State.ackTrack_quiet (s : State) :
    s.ackTrack.quiet = s.quiet := by
  simp only [State.ackTrack]
  simp

/-! ## The DLC (Drives) -/

@[simp] theorem State.recordFault_quiet (s : State) (d : Drive) (kind : FaultKind) (code : Byte) :
    (s.recordFault d kind code).quiet = s.quiet := by
  simp only [State.recordFault]
  simp
@[simp] theorem State.driveFaultEvent_quiet (s : State) (d : Drive) (kind : FaultKind) (op code : Byte) :
    (s.driveFaultEvent d kind op code).quiet = s.quiet := by
  simp only [State.driveFaultEvent]
  simp
@[simp] theorem State.setLine_quiet (s : State) (l : LineState) :
    (s.setLine l).quiet = s.quiet := by
  simp only [State.setLine]
  simp
@[simp] theorem State.accepted_quiet (s : State) (d : Drive) :
    (s.accepted d).quiet = s.quiet := by
  simp only [State.accepted]
  simp
@[simp] theorem State.sendCommand_quiet (s : State) (d : Drive) (rest : List Drive) :
    (s.sendCommand d rest).quiet = s.quiet := by
  simp only [State.sendCommand]
  (repeat' split) <;> simp
@[simp] theorem State.closePoll_quiet (s : State) (c : Byte) :
    (s.closePoll c).quiet = s.quiet := by
  simp only [State.closePoll]
  simp
@[simp] theorem State.badStatus_quiet (s : State) :
    s.badStatus.quiet = s.quiet := by
  simp only [State.badStatus]
  simp
@[simp] theorem State.report_quiet (s : State) (d : Drive) (results : List Byte) :
    (s.report d results).quiet = s.quiet := by
  simp only [State.report]
  (repeat' split) <;> simp

end Sys2Proof.Machine
end

