-- ==== Sys2Proof/Laws/Eases.lean ====
section
/-! SUPPORT. What the internal operations beyond the quiet ones do to the cell: a completion, a classification or a push may
close the lot, set the quality hold or send a cell in RUN to DRAIN, and nothing more of the CMC. -/

namespace Sys2Proof.Machine

open Sys2Proof

/-- The quiet view without mode, cause, lot and hold. -/
def State.firm (s : State) : Cmc × RecipeStore × Pnc × Link × Bool × List Instr :=
  ({ s.quiet.1 with mode := .setup, cause := 0, lot := .none, hold := none }, s.quiet.2)

theorem State.firm_of_quiet {s t : State} (h : t.quiet = s.quiet) : t.firm = s.firm := by simp [State.firm, h]

/-- From s to t the mode stays, or goes from RUN to DRAIN; the hold stays, or is set outside RUN; outside RUN the
cause stays; the firm view stays. -/
structure Eases (s t : State) : Prop where
  mode : t.cmc.mode = s.cmc.mode ∨ (s.cmc.mode = .run ∧ t.cmc.mode = .drain)
  hold : t.cmc.hold = s.cmc.hold ∨ (t.cmc.hold.isSome = true ∧ t.cmc.mode ≠ .run)
  cause : s.cmc.mode ≠ .run → t.cmc.cause = s.cmc.cause
  firm : t.firm = s.firm

theorem Eases.of_quiet {s t : State} (h : t.quiet = s.quiet) : Eases s t :=
  ⟨.inl (State.quiet_mode h), .inl (State.quiet_hold h), fun _ => congrArg (·.1.cause) h, State.firm_of_quiet h⟩

theorem Eases.refl (s : State) : Eases s s := .of_quiet rfl

theorem Eases.trans {s t u : State} (h : Eases s t) (k : Eases t u) : Eases s u where
  mode := by
    rcases h.mode with a | ⟨a, b⟩ <;> rcases k.mode with c | ⟨c, d⟩ <;> simp_all
  hold := by
    rcases k.hold with c | c
    · rcases h.hold with a | ⟨a, b⟩
      · exact .inl (c.trans a)
      · refine .inr ⟨by rw [c]; exact a, ?_⟩
        rcases k.mode with d | ⟨_, d⟩ <;> simp_all
    · exact .inr c
  cause x := by
    refine (k.cause ?_).trans (h.cause x)
    rcases h.mode with a | ⟨a, _⟩
    · rw [a]; exact x
    · exact absurd a x
  firm := k.firm.trans h.firm

/-- A quiet operation after an easing one. -/
theorem Eases.quiet {s t u : State} (h : Eases s t) (k : u.quiet = t.quiet) : Eases s u := h.trans (.of_quiet k)

/-! ## The CMC -/

theorem State.setLot_eases (s : State) (l : LotState) : Eases s (s.setCmc { s.cmc with lot := l }) :=
  ⟨.inl rfl, .inl rfl, fun _ => rfl, rfl⟩
theorem State.setMode_firm (s : State) (m : Mode) (c : Nat) :
    (s.setCmc { s.cmc with mode := m, cause := c }).firm = s.firm := rfl
theorem State.setHold_firm (s : State) (c : Option HoldCause) : (s.setCmc { s.cmc with hold := c }).firm = s.firm := rfl

theorem State.lotCloseTest_eases (s : State) : Eases s s.lotCloseTest := by
  simp only [State.lotCloseTest]
  split
  · exact (s.setLot_eases .none).quiet (by simp)
  · exact .refl s

/-- A change of mode, up to its lot close test. -/
theorem State.changeMode_spec (s : State) (new : Mode) (cause : Nat) :
    ∃ t : State, t.quiet = (s.setCmc { s.cmc with mode := new, cause := cause }).quiet ∧
      s.changeMode new cause = if new = .setup then t.lotCloseTest else t := by
  simp only [State.changeMode]
  refine ⟨_, ?_, rfl⟩
  simp only [State.handNotice_quiet, State.writeEvent_quiet, State.testPullGates_quiet, State.tellTrack_quiet,
    State.tellHead_quiet]
  split <;> simp

theorem State.changeMode_mode (s : State) (new : Mode) (cause : Nat) : (s.changeMode new cause).cmc.mode = new := by
  obtain ⟨t, h, e⟩ := s.changeMode_spec new cause
  have hm : t.cmc.mode = new := State.quiet_mode h
  rw [e]
  split
  · rcases t.lotCloseTest_eases.mode with k | ⟨k, l⟩ <;> simp_all
  · exact hm

theorem State.changeMode_hold (s : State) (new : Mode) (cause : Nat) : (s.changeMode new cause).cmc.hold = s.cmc.hold := by
  obtain ⟨t, h, e⟩ := s.changeMode_spec new cause
  have hm : t.cmc.hold = s.cmc.hold := (State.quiet_hold h).trans rfl
  rw [e]
  split
  · simp only [State.lotCloseTest]
    split
    · exact (State.quiet_hold (t := _) (s := t.setCmc { t.cmc with lot := .none }) (by simp)).trans hm
    · exact hm
  · exact hm

theorem State.changeMode_firm (s : State) (new : Mode) (cause : Nat) : (s.changeMode new cause).firm = s.firm := by
  obtain ⟨t, h, e⟩ := s.changeMode_spec new cause
  have hm : t.firm = s.firm := (State.firm_of_quiet h).trans (s.setMode_firm new cause)
  rw [e]
  split
  · exact t.lotCloseTest_eases.firm.trans hm
  · exact hm

/-- RUN left for DRAIN. -/
theorem State.changeMode_drain_eases (s : State) (cause : Nat) (h : s.cmc.mode = .run) :
    Eases s (s.changeMode .drain cause) :=
  ⟨.inr ⟨h, s.changeMode_mode _ _⟩, .inl (s.changeMode_hold _ _), fun k => absurd h k, s.changeMode_firm _ _⟩

theorem State.setQualityHold_eases (s : State) (cause : HoldCause) : Eases s (s.setQualityHold cause) := by
  simp only [State.setQualityHold]
  split
  · exact .refl s
  · let u := s.setCmc { s.cmc with hold := some cause }
    let v := if s.cmc.mode = .run then u.changeMode .drain 2 else u
    have hv : Eases s v := by
      by_cases h : s.cmc.mode = .run
      · have e : v = u.changeMode .drain 2 := if_pos h
        rw [e]
        exact ⟨.inr ⟨h, u.changeMode_mode _ _⟩,
          .inr ⟨by rw [u.changeMode_hold]; rfl, by rw [u.changeMode_mode]; decide⟩, fun k => absurd h k,
          (u.changeMode_firm _ _).trans rfl⟩
      · have e : v = u := if_neg h
        rw [e]
        exact ⟨.inl rfl, .inr ⟨rfl, h⟩, fun _ => rfl, rfl⟩
    exact hv.quiet (by simp [v, u])

/-- After a setting the hold is set. -/
theorem State.setQualityHold_hold (s : State) (cause : HoldCause) :
    (s.setQualityHold cause).cmc.hold = some (s.cmc.hold.getD cause) := by
  simp only [State.setQualityHold]
  split
  · rename_i c h; rw [h]; rfl
  · rename_i h
    rw [h]
    refine (State.quiet_hold (s := if s.cmc.mode = .run then (s.setCmc { s.cmc with hold := some cause }).changeMode .drain 2
      else s.setCmc { s.cmc with hold := some cause }) (by simp)).trans ?_
    split
    · rw [State.changeMode_hold]; rfl
    · rfl

theorem State.clearQualityHold_spec (s : State) (cause : Nat) :
    (s.clearQualityHold cause).quiet = (s.setCmc { s.cmc with hold := none }).quiet := by
  simp only [State.clearQualityHold]
  split
  · rename_i h
    have : ({ s.cmc with hold := none } : Cmc) = s.cmc := by rw [← h]
    rw [this]; rfl
  · simp

/-! ## Pulls and classifications -/

theorem State.unstage_eases (s : State) (serial : Nat) : Eases s (s.unstage serial) := by
  simp only [State.unstage]
  have a : Eases s (s.setPsc { s.psc with queue := s.psc.queue.filter fun p => p.serial != serial }) := .of_quiet (by simp)
  generalize s.setPsc { s.psc with queue := s.psc.queue.filter fun p => p.serial != serial } = u at *
  generalize hv : (if (s.psc.queue.filter fun p => p.serial != serial) = [] then
    (u.removePrompt .classifyPending 0).lotCloseTest else u) = v
  have b : Eases s v := by
    rw [← hv]
    split
    · exact (a.quiet (by simp)).trans (State.lotCloseTest_eases _)
    · exact a
  split
  · exact b.quiet (by simp)
  · exact b

theorem State.classifyPull_eases (s : State) (x : Staged) (mode : Nat) (by' : Classifier) :
    Eases s (s.classifyPull x mode by') := by
  simp only [State.classifyPull]
  have a (u : State) (h : u.quiet = s.quiet) : Eases s (u.unstage x.serial) := (Eases.of_quiet h).trans (u.unstage_eases _)
  split
  · exact (a _ (State.commit_quiet ..)).quiet (State.setPsc_quiet ..)
  · exact ((a _ (State.commit_quiet ..)).quiet (State.setPsc_quiet ..)).trans (State.setQualityHold_eases _ _)

theorem State.pullMade_eases (s : State) (f : Flight) (results : List Byte) : Eases s (s.pullMade f results) := by
  simp only [State.pullMade]
  have k (u : State) (h : Eases s u) : Eases s u.advancePull.nextPull := h.quiet (by simp)
  split
  · exact k _ ((Eases.of_quiet (by simp)).trans (State.setQualityHold_eases _ _))
  · exact .of_quiet (by simp)

theorem State.pullEnded_eases (s : State) (c : Completion) : Eases s (s.pullEnded c) := by
  simp only [State.pullEnded]
  (repeat' split) <;> first | exact .of_quiet (by simp) | exact s.pullMade_eases _ _

/-! ## Pushes and stores -/

theorem State.pushOver_eases (s : State) : Eases s s.pushOver := s.lotCloseTest_eases.quiet (by simp [State.pushOver])

theorem State.serialLimit_eases (s : State) : Eases s s.serialLimit := by
  simp only [State.serialLimit]
  split
  · rename_i h; exact s.changeMode_drain_eases 4 h.2
  · exact .refl s

theorem State.pushDone_eases (s : State) (mag slot : Nat) : Eases s (s.pushDone mag slot) := by
  simp only [State.pushDone]
  refine ((Eases.of_quiet ?_).trans (State.pushOver_eases _)).trans (State.serialLimit_eases _)
  simp only [State.setTrc_quiet]
  (repeat' split) <;> simp

theorem State.pushLost_eases (s : State) (mag slot : Nat) (stopped : Bool) : Eases s (s.pushLost mag slot stopped) := by
  simp only [State.pushLost]
  refine (Eases.of_quiet ?_).trans (State.pushOver_eases _)
  (repeat' split) <;> simp

theorem State.pushEnded_eases (s : State) (c : Completion) : Eases s (s.pushEnded c) := by
  simp only [State.pushEnded]
  (repeat' split) <;> first | exact .refl s | exact s.pushDone_eases _ _ | exact s.pushLost_eases _ _ _

theorem State.inElevatorEnded_eases (s : State) (c : Completion) : Eases s (s.inElevatorEnded c) := by
  simp only [State.inElevatorEnded]
  split
  · exact .of_quiet (by simp)
  · exact .of_quiet (by simp)
  · exact .of_quiet (by simp)
  · exact ((Eases.of_quiet (State.setTrc_quiet ..)).trans (State.pushEnded_eases _ _)).quiet (State.issueHeldScan_quiet _)

theorem State.storeDone_eases (s : State) (mag slot : Nat) : Eases s (s.storeDone mag slot) := by
  simp only [State.storeDone]
  split
  · exact .of_quiet (by simp)
  · exact (Eases.of_quiet (by simp)).trans (State.lotCloseTest_eases _)

theorem State.outElevatorEnded_eases (s : State) (c : Completion) : Eases s (s.outElevatorEnded c) := by
  simp only [State.outElevatorEnded]
  (repeat' split) <;> first | exact s.storeDone_eases _ _ | exact .of_quiet (by simp)

/-! ## The Drive Line -/

theorem State.deliver_eases (s : State) (d : Drive) (c : Completion) : Eases s (s.deliver d c) := by
  cases d <;> simp only [State.deliver] <;>
    first
    | exact .of_quiet (by simp)
    | exact s.inElevatorEnded_eases c
    | exact s.outElevatorEnded_eases c
    | exact s.pullEnded_eases c

theorem State.endOperation_eases (s : State) (d : Drive) (c : Completion) : Eases s (s.endOperation d c) :=
  (Eases.of_quiet (by simp)).trans (State.deliver_eases _ d c)

theorem State.failOperation_eases (s : State) (d : Drive) (k : FaultKind) (code : Byte) :
    Eases s (s.failOperation d k code) :=
  (Eases.of_quiet (by simp)).trans (State.endOperation_eases _ _ _)

theorem State.noAnswer_eases (s : State) (d : Drive) : Eases s (s.noAnswer d) :=
  (Eases.of_quiet (by simp)).trans (State.endOperation_eases _ _ _)

theorem State.answer_eases (s : State) (d : Drive) (discard : Bool) (c : LineChar) : Eases s (s.answer d discard c) := by
  simp only [State.answer]
  have a : Eases s (s.setLine .free) := .of_quiet (by simp)
  (repeat' split)
  · exact a
  · exact a.quiet (by simp)
  · exact a.trans (State.failOperation_eases _ _ _ _)
  · exact a.trans (State.noAnswer_eases _ _)

theorem State.goodStatusTaken_eases (s : State) (d : Drive) (kind op : Byte) (results : List Byte) :
    Eases s (s.goodStatusTaken d kind op results) := by
  simp only [State.goodStatusTaken]
  (repeat' split)
  · exact .of_quiet (by simp)
  · exact s.endOperation_eases _ _
  · exact s.failOperation_eases _ _ _
  · exact .of_quiet (by simp)

theorem State.statusChar_eases (s : State) (d : Drive) (chars : List Byte) (c : LineChar) :
    Eases s (s.statusChar d chars c) := by
  simp only [State.statusChar]
  (repeat' split)
  · exact .of_quiet (by simp)
  · exact (Eases.of_quiet (by simp)).trans (State.goodStatusTaken_eases _ _ _ _ _)
  · exact .of_quiet (by simp)
  · exact .of_quiet (by simp)

theorem State.timedOut_eases (s : State) (d : Drive) : Eases s (s.timedOut d) :=
  (Eases.of_quiet (by simp)).trans (State.endOperation_eases _ _ _)

theorem State.stopDrive_eases (s : State) (d : Drive) : Eases s (s.stopDrive d) := by
  simp only [State.stopDrive]
  split
  · exact .refl s
  · exact s.endOperation_eases _ _

theorem State.stopDrives_eases (ds : List Drive) (s : State) : Eases s (ds.foldl State.stopDrive s) := by
  induction ds generalizing s with
  | nil => exact .refl s
  | cons d ds ih => exact (s.stopDrive_eases d).trans (ih _)

theorem State.haltDrives_eases (s : State) : Eases s s.haltDrives :=
  (Eases.of_quiet (by simp)).trans (State.stopDrives_eases _ _)

/-- HALT entered: from the state in HALT on, nothing but an easing change. -/
theorem State.enterHalt_eases (s : State) (cause : Nat) :
    Eases (s.setCmc { s.cmc with mode := .halt, cause := cause }) (s.enterHalt cause) :=
  (State.haltDrives_eases _).quiet (by simp [State.enterHalt])

theorem State.enterHalt_mode (s : State) (cause : Nat) : (s.enterHalt cause).cmc.mode = .halt := by
  rcases (s.enterHalt_eases cause).mode with h | ⟨h, _⟩
  · exact h
  · cases h

theorem State.enterHalt_cause (s : State) (cause : Nat) : (s.enterHalt cause).cmc.cause = cause :=
  (s.enterHalt_eases cause).cause (by simp)

theorem State.changeMode_cause (s : State) (new : Mode) (cause : Nat) : (s.changeMode new cause).cmc.cause = cause := by
  obtain ⟨t, h, e⟩ := s.changeMode_spec new cause
  have hc : t.cmc.cause = cause := congrArg (·.1.cause) h
  have hm : t.cmc.mode = new := State.quiet_mode h
  rw [e]
  split
  · rename_i k
    exact (t.lotCloseTest_eases.cause (by rw [hm, k]; decide)).trans hc
  · exact hc

end Sys2Proof.Machine
end

