-- ==== Sys2Proof/Laws/Link.lean ====
section
/-! SUPPORT. The Station Link: what the transmitter's choice, the dispatcher and a request command do, once for all, and what
the handlers of the requests keep. -/

namespace Sys2Proof.Machine

open Sys2Proof

/-! ## The transmitter's choice (R199) -/

@[simp] theorem State.txChoose_cmc (s : State) : s.txChoose.cmc = s.cmc := by
  unfold State.txChoose; (repeat' split) <;> rfl
@[simp] theorem State.txChoose_rs (s : State) : s.txChoose.rs = s.rs := by
  unfold State.txChoose; (repeat' split) <;> rfl
@[simp] theorem State.txChoose_heads (s : State) : s.txChoose.heads = s.heads := by
  unfold State.txChoose; (repeat' split) <;> rfl
@[simp] theorem State.txChoose_stu (s : State) : s.txChoose.stu = s.stu := by
  unfold State.txChoose; (repeat' split) <;> rfl
@[simp] theorem State.txChoose_trc (s : State) : s.txChoose.trc = s.trc := by
  unfold State.txChoose; (repeat' split) <;> rfl
@[simp] theorem State.txChoose_dlc (s : State) : s.txChoose.dlc = s.dlc := by
  unfold State.txChoose; (repeat' split) <;> rfl
@[simp] theorem State.txChoose_psc (s : State) : s.txChoose.psc = s.psc := by
  unfold State.txChoose; (repeat' split) <;> rfl
@[simp] theorem State.txChoose_rm (s : State) : s.txChoose.rm = s.rm := by
  unfold State.txChoose; (repeat' split) <;> rfl
@[simp] theorem State.txChoose_pnc (s : State) : s.txChoose.pnc = s.pnc := by
  unfold State.txChoose; (repeat' split) <;> rfl
@[simp] theorem State.txChoose_pending (s : State) : s.txChoose.pending = s.pending := by
  unfold State.txChoose; (repeat' split) <;> rfl
@[simp] theorem State.txChoose_rxQueue (s : State) : s.txChoose.link.rxQueue = s.link.rxQueue := by
  unfold State.txChoose; (repeat' split) <;> rfl
@[simp] theorem State.txChoose_rx (s : State) : s.txChoose.link.rx = s.link.rx := by
  unfold State.txChoose; (repeat' split) <;> rfl
@[simp] theorem State.txChoose_fast (s : State) : s.txChoose.link.fast = s.link.fast := by
  unfold State.txChoose; (repeat' split) <;> rfl
@[simp] theorem State.txChoose_restart (s : State) : s.txChoose.link.restart = s.link.restart := by
  unfold State.txChoose; (repeat' split) <;> rfl
@[simp] theorem State.txChoose_head (s : State) (h : HeadId) : s.txChoose.head h = s.head h := by
  simp [State.head]

/-- A frame being sent stops the choice. -/
theorem State.txChoose_sending (s : State) (h : s.link.tx.isSome = true) : s.txChoose = s := by
  simp [State.txChoose, h]

/-- With nothing to send there is nothing to choose. -/
theorem State.txChoose_nothing (s : State) (h : s.link.reply = none) (k : s.link.notices = []) : s.txChoose = s := by
  unfold State.txChoose
  split
  · rfl
  · rw [h, k]

/-- The choice is made once: a second look changes nothing. -/
@[simp] theorem State.txChoose_txChoose (s : State) : s.txChoose.txChoose = s.txChoose := by
  by_cases h : s.link.tx.isSome || s.link.restart == .due
  · have e : s.txChoose = s := by simp only [State.txChoose, h, if_true]
    rw [e, e]
  · have e : s.txChoose = match s.link.reply, s.link.notices with
      | some f, _ => s.setLink { s.link with tx := some (.reply f), reply := none }
      | none, n :: ns => s.setLink { s.link with tx := some (.notice n), notices := ns }
      | none, [] => s := by unfold State.txChoose; exact if_neg h
    rw [e]
    split
    · exact State.txChoose_sending _ rfl
    · exact State.txChoose_sending _ rfl
    · rename_i a b; exact State.txChoose_nothing _ a b

/-- The reply slot is emptied or kept; it is never filled. -/
theorem State.txChoose_reply (s : State) (h : s.link.reply = none) : s.txChoose.link.reply = none := by
  unfold State.txChoose; (repeat' split) <;> simp_all

theorem State.txChoose_fits (s : State) (h : s.noticesFit = true) : s.txChoose.noticesFit = true := by
  unfold State.txChoose
  (repeat' split) <;> simp_all [State.noticesFit]; omega

/-! ## Dispatch (R197) -/

theorem State.settleLink_empty (s : State) (h : s.link.rxQueue = []) : s.settleLink = s.txChoose := by
  simp [State.settleLink, h, State.settle]

/-- A frame that finds the link free: the transmitter takes what waits, the frame is dispatched, the transmitter chooses
again. -/
theorem State.offerFrame_free (s : State) (f : Frame) (h : s.link.Free) :
    s.offerFrame f = (s.txChoose.dispatch f).txChoose := by
  obtain ⟨hq, hr, hw⟩ := h
  have hq' : s.txChoose.link.rxQueue = [] := by simp [hq]
  have hr' : s.txChoose.link.reply = none := s.txChoose_reply hr
  have hw' : s.txChoose.link.restart = .no := by simp [hw]
  have he : s.txChoose.txChoose = s.txChoose := s.txChoose_txChoose
  simp only [State.offerFrame, s.settleLink_empty hq]
  generalize s.txChoose = u at *
  have hu : u.enqueueFrame f = u.setLink { u.link with rxQueue := [f] } := by
    simp [State.enqueueFrame, hq', Config.rxQueueSize]
  have hc : (u.setLink { u.link with rxQueue := [f] }).txChoose = u.setLink { u.link with rxQueue := [f] } := by
    by_cases k : u.link.tx.isSome = true
    · exact State.txChoose_sending _ (by simpa using k)
    · by_cases n : u.link.notices = []
      · exact State.txChoose_nothing _ (by simpa using hr') (by simpa using n)
      · exfalso
        obtain ⟨x, xs, hx⟩ := List.exists_cons_of_ne_nil n
        have e : u.txChoose.link.tx = some (.notice x) := by
          simp [State.txChoose, hr', hx, hw', k]
        rw [he] at e
        simp [e] at k
  have hd : (u.setLink { u.link with rxQueue := [f] }).dispatchOne = u.dispatch f := by
    obtain ⟨cmc, rs, heads, stu, trc, dlc, psc, rm, pnc, ⟨fast, rx, rxQueue, reply, notices, tx, restart⟩, pending⟩ := u
    simp only at hq' hr' hw'
    subst hq' hr' hw'
    rfl
  rw [hu]
  simp only [State.settleLink, State.setLink_link, List.length_cons, List.length_nil, State.settle]
  rw [hc, hd]

/-- A request frame that finds the link free is dispatched at once (R197). -/
theorem request_free (code : Nat) (tag : Byte) (payload : Payload) (s : State) (h : s.link.Free)
    (hp : payload.length ≤ 248) :
    request code tag payload s = .next (s.txChoose.dispatch ⟨byte code, tag, payload⟩).txChoose := by
  rw [request, if_pos hp, s.offerFrame_free _ h]

/-! ## The receiver beside the transmitter (R195, R199) -/

/-- The receiver has no part in the transmitter's choice. -/
theorem State.setReceiver_txChoose (s : State) (r : Receiver) :
    (s.setReceiver r).txChoose = s.txChoose.setReceiver r := by
  unfold State.txChoose
  show (if (s.link.tx.isSome || s.link.restart == .due) = true then s.setReceiver r
    else match s.link.reply, s.link.notices with
      | some f, _ => (s.setReceiver r).setLink { (s.setReceiver r).link with tx := some (.reply f), reply := none }
      | none, n :: ns => (s.setReceiver r).setLink { (s.setReceiver r).link with tx := some (.notice n), notices := ns }
      | none, [] => s.setReceiver r) = _
  split
  · rfl
  · cases s.link.reply <;> cases s.link.notices <;> rfl

/-- Turns of transmitter and dispatcher may begin with the transmitter's choice already made. -/
theorem State.txChoose_settle (s : State) (n : Nat) : s.txChoose.settle n = s.settle n := by
  cases n with
  | zero => exact s.txChoose_txChoose
  | succ n => simp only [State.settle, s.txChoose_txChoose]

/-- After the turns there is nothing left to choose. -/
theorem State.settle_txChoose (n : Nat) (s : State) : (s.settle n).txChoose = s.settle n := by
  induction n generalizing s with
  | zero => exact s.txChoose_txChoose
  | succ n ih => exact ih _

theorem State.txChoose_settleLink (s : State) : s.txChoose.settleLink = s.settleLink := by
  simp only [State.settleLink, State.txChoose_rxQueue, s.txChoose_settle]

/-- Offering a frame makes the transmitter's choice before and after. -/
theorem State.txChoose_offerFrame (s : State) (f : Frame) : s.txChoose.offerFrame f = s.offerFrame f := by
  simp only [State.offerFrame, s.txChoose_settleLink]

theorem State.offerFrame_txChoose (s : State) (f : Frame) : (s.offerFrame f).txChoose = s.offerFrame f :=
  State.settle_txChoose _ _

end Sys2Proof.Machine
end

