-- ==== Sys2Proof/Laws/Requests.lean ====
section
/-! SUPPORT. What the handlers of the requests and the panel's keys keep: the rules of Safety.lean, the receive queue and the
queue of commands. -/

namespace Sys2Proof.Machine

open Sys2Proof

/-- From s to t the rules of Safety.lean survive, and the receive queue and the queue of commands stay. -/
structure Sane (s t : State) : Prop where
  hold : s.holdRule = true → t.holdRule = true
  halt : s.haltRule = true → t.haltRule = true
  fits : s.noticesFit = true → t.noticesFit = true
  rxQueue : t.link.rxQueue = s.link.rxQueue
  pending : t.pending = s.pending
  layout : s.layoutRule → t.layoutRule

theorem Sane.refl (s : State) : Sane s s := ⟨id, id, id, rfl, rfl, id⟩

theorem Sane.trans {s t u : State} (h : Sane s t) (k : Sane t u) : Sane s u :=
  ⟨fun x => k.hold (h.hold x), fun x => k.halt (h.halt x), fun x => k.fits (h.fits x), k.rxQueue.trans h.rxQueue,
    k.pending.trans h.pending, fun x => k.layout (h.layout x)⟩

theorem State.layoutRule_of_rs {s t : State} (h : t.rs = s.rs) (k : s.layoutRule) : t.layoutRule := by
  simpa [State.layoutRule, h] using k

/-- A state with the same mode, hold, HALT input, link queues, queue of commands and layout. -/
theorem Sane.of_fields {s t : State} (mode : t.cmc.mode = s.cmc.mode) (hold : t.cmc.hold = s.cmc.hold)
    (input : t.cmc.haltInput = s.cmc.haltInput) (fits : t.noticesFit = s.noticesFit)
    (rxQueue : t.link.rxQueue = s.link.rxQueue) (pending : t.pending = s.pending)
    (layout : t.rs.layout = s.rs.layout) : Sane s t :=
  ⟨by simp [State.holdRule, mode, hold], by simp [State.haltRule, mode, input], by simp [fits], rxQueue, pending,
    by simp [State.layoutRule, layout]⟩

theorem State.firm_haltInput {s t : State} (h : t.firm = s.firm) : t.cmc.haltInput = s.cmc.haltInput :=
  congrArg (·.1.haltInput) h
theorem State.firm_fits {s t : State} (h : t.firm = s.firm) : t.noticesFit = s.noticesFit := congrArg (·.2.2.2.2.1) h
theorem State.firm_rxQueue {s t : State} (h : t.firm = s.firm) : t.link.rxQueue = s.link.rxQueue :=
  congrArg (·.2.2.2.1.rxQueue) h
theorem State.firm_rs {s t : State} (h : t.firm = s.firm) : t.rs = s.rs := congrArg (·.2.1) h
theorem State.firm_pending {s t : State} (h : t.firm = s.firm) : t.pending = s.pending := congrArg (·.2.2.2.2.2) h

theorem Eases.sane {s t : State} (h : Eases s t) : Sane s t where
  hold k := by
    have hm := h.mode
    rcases h.hold with a | ⟨a, b⟩
    · rcases hm with c | ⟨_, c⟩ <;> simp_all [State.holdRule]
    · simp_all [State.holdRule]
  halt k := by
    have hi := State.firm_haltInput h.firm
    rcases h.mode with c | ⟨c, d⟩ <;> simp_all [State.haltRule]
  fits k := by rw [State.firm_fits h.firm]; exact k
  rxQueue := State.firm_rxQueue h.firm
  pending := State.firm_pending h.firm
  layout := State.layoutRule_of_rs (State.firm_rs h.firm)

theorem Sane.of_quiet {s t : State} (h : t.quiet = s.quiet) : Sane s t := (Eases.of_quiet h).sane

/-- A change of mode is sane when the new mode agrees with hold and HALT input. -/
theorem State.changeMode_sane (s : State) (new : Mode) (cause : Nat)
    (hh : new = .run → s.cmc.hold = none) (hi : s.haltRule = true → s.cmc.haltInput = true → new = .halt) :
    Sane s (s.changeMode new cause) where
  hold _ := by
    simp only [State.holdRule, s.changeMode_mode, s.changeMode_hold]
    by_cases h : new = .run
    · simp [hh h]
    · simp [h]
  halt k := by
    have e := State.firm_haltInput (s.changeMode_firm new cause)
    simp only [State.haltRule, s.changeMode_mode, e]
    by_cases h : s.cmc.haltInput = true
    · simp [hi k h]
    · simp [h]
  fits k := by rw [State.firm_fits (s.changeMode_firm new cause)]; exact k
  rxQueue := State.firm_rxQueue (s.changeMode_firm new cause)
  pending := State.firm_pending (s.changeMode_firm new cause)
  layout := State.layoutRule_of_rs (State.firm_rs (s.changeMode_firm new cause))

theorem State.changeMode_drain_sane (s : State) (cause : Nat) (h : s.cmc.mode = .run) :
    Sane s (s.changeMode .drain cause) := (s.changeMode_drain_eases cause h).sane

theorem State.clearQualityHold_sane (s : State) (cause : Nat) : Sane s (s.clearQualityHold cause) where
  hold _ := by
    have := State.quiet_hold (s.clearQualityHold_spec cause)
    simp_all [State.holdRule]
  halt k := by
    have := State.quiet_mode (s.clearQualityHold_spec cause)
    have := State.quiet_haltInput (s.clearQualityHold_spec cause)
    simp_all [State.haltRule]
  fits k := by rw [State.quiet_fits (s.clearQualityHold_spec cause)]; exact k
  rxQueue := (State.quiet_rxQueue (s.clearQualityHold_spec cause)).trans rfl
  pending := (State.quiet_pending (s.clearQualityHold_spec cause)).trans rfl
  layout := State.layoutRule_of_rs ((State.quiet_rs (s.clearQualityHold_spec cause)).trans rfl)

theorem State.enterHalt_sane (s : State) (cause : Nat) : Sane s (s.enterHalt cause) where
  hold _ := by simp [State.holdRule, s.enterHalt_mode]
  halt _ := by simp [State.haltRule, s.enterHalt_mode]
  fits k := by rw [State.firm_fits (s.enterHalt_eases cause).firm]; exact k
  rxQueue := (State.firm_rxQueue (s.enterHalt_eases cause).firm).trans rfl
  pending := (State.firm_pending (s.enterHalt_eases cause).firm).trans rfl
  layout := State.layoutRule_of_rs ((State.firm_rs (s.enterHalt_eases cause).firm).trans rfl)

theorem State.txChoose_sane (s : State) : Sane s s.txChoose where
  hold k := by simpa [State.holdRule] using k
  halt k := by simpa [State.haltRule] using k
  fits := s.txChoose_fits
  rxQueue := s.txChoose_rxQueue
  pending := s.txChoose_pending
  layout := State.layoutRule_of_rs s.txChoose_rs

/-! ## Updates of one block -/

theorem State.setRs_sane (s : State) (x : RecipeStore) (h : x.layout = s.rs.layout) : Sane s (s.setRs x) :=
  .of_fields rfl rfl rfl rfl rfl rfl h
theorem State.setPnc_sane (s : State) (x : Pnc) : Sane s (s.setPnc x) := .of_fields rfl rfl rfl rfl rfl rfl rfl
theorem State.setRm_sane (s : State) (x : Rm) : Sane s (s.setRm x) := .of_fields rfl rfl rfl rfl rfl rfl rfl
theorem State.setTrc_sane (s : State) (x : Trc) : Sane s (s.setTrc x) := .of_fields rfl rfl rfl rfl rfl rfl rfl

/-! ## The shapes of the handlers -/

theorem noPayload_sane (p : Payload) (s : State) (f : State → State × Payload) (h : Sane s (f s).1) :
    Sane s (noPayload p s f).1 := by
  unfold noPayload; split
  · exact h
  · exact .refl s

theorem withMask_sane (p : Payload) (s : State) (f : State → BitVec 22 → State × Payload) (h : ∀ m, Sane s (f s m).1) :
    Sane s (withMask p s f).1 := by
  unfold withMask; (repeat' split) <;> first | exact .refl s | exact h _

theorem withHead_sane (p : Payload) (s : State) (f : State → HeadId → State × Payload) (h : ∀ x, Sane s (f s x).1) :
    Sane s (withHead p s f).1 := by
  unfold withHead; (repeat' split) <;> first | exact .refl s | exact h _

theorem State.load_sane (s : State) (c : ItemClass) (fs : List FieldSpec) (p : Payload)
    (cross : List Int → List (Nat × Bool)) (write : State → List Int → State × Payload) (h : ∀ v, Sane s (write s v).1) :
    Sane s (s.load c fs p cross write).1 := by
  unfold State.load; (repeat' split) <;> first | exact .refl s | exact h _

theorem withBuild_sane (s : State) (slot : Nat) (f : Template → State × Payload) (h : ∀ t, Sane s (f t).1) :
    Sane s (withBuild s slot f).1 := by
  unfold withBuild; (repeat' split) <;> first | exact .refl s | exact h _

theorem withSlot_sane (rest : Payload) (s : State) (f : Nat → State × Payload) (h : ∀ n, Sane s (f n).1) :
    Sane s (withSlot rest s f).1 := by
  unfold withSlot; split <;> first | exact .refl s | exact h _

/-! ## Station Link and CMC -/

theorem handleIdentify_sane (p : Payload) (s : State) : Sane s (handleIdentify p s).1 := noPayload_sane _ _ _ (.refl s)
theorem handleLinkEcho_sane (p : Payload) (s : State) : Sane s (handleLinkEcho p s).1 := by
  unfold handleLinkEcho; split <;> exact .refl s

theorem State.runRefusal_none (s : State) (h : s.runRefusal = none) :
    s.cmc.mode ≠ .halt ∧ s.cmc.hold = none ∧ s.cmc.lot = .opened ∧ checkRecipe s.rs = none ∧ s.cmc.trackCheck = true := by
  unfold State.runRefusal at h
  split at h
  · cases h
  · split at h
    · cases h
    · split at h
      · cases h
      · split at h
        · cases h
        · split at h
          · exact ⟨by assumption, by simp_all, by simp_all, by assumption, by assumption⟩
          · cases h

theorem handleSetMode_sane (p : Payload) (s : State) : Sane s (handleSetMode p s).1 := by
  simp only [handleSetMode]
  split
  · exact .refl s
  split
  · split
    · exact .refl s
    · split
      · exact .refl s
      · rename_i a b
        refine s.changeMode_sane .setup 1 (fun h => by cases h) fun k i => ?_
        simp_all [State.haltRule]
  · split
    · exact .refl s
    · split
      · exact .refl s
      · rename_i a b
        have := s.runRefusal_none b
        exact s.changeMode_sane .run 1 (fun _ => this.2.1) fun k i => absurd (by simpa [State.haltRule, i] using k) this.1
  · split
    · exact .refl s
    · split
      · exact s.changeMode_drain_sane 1 (by assumption)
      · exact .refl s
  · exact .refl s

theorem handleGetCellStatus_sane (p : Payload) (s : State) : Sane s (handleGetCellStatus p s).1 :=
  noPayload_sane _ _ _ (.refl s)

theorem State.openLot_sane (s : State) (id : Nat) : Sane s (s.openLot id) := by
  unfold State.openLot
  have a : Sane s (s.setCmc { s.cmc with lot := .opened, lotId := id }) := .of_fields rfl rfl rfl rfl rfl rfl rfl
  exact a.trans (.of_quiet (by simp))

theorem handleStartLot_sane (p : Payload) (s : State) : Sane s (handleStartLot p s).1 := by
  simp only [handleStartLot]
  (repeat' split) <;> first | exact .refl s | exact s.openLot_sane _

theorem State.closeLot_sane (s : State) : Sane s s.closeLot := by
  unfold State.closeLot
  have a : Eases s ((s.setCmc { s.cmc with lot := .closing }).testFeed) :=
    (s.setLot_eases .closing).quiet (State.testFeed_quiet _)
  refine Sane.trans ?_ (State.lotCloseTest_eases _).sane
  split
  · rename_i h
    refine a.sane.trans (State.changeMode_drain_sane _ 3 ?_)
    rw [State.quiet_mode (s := s.setCmc { s.cmc with lot := .closing }) (State.testFeed_quiet _)]
    exact h
  · exact a.sane

theorem handleEndLot_sane (p : Payload) (s : State) : Sane s (handleEndLot p s).1 := by
  refine noPayload_sane _ _ _ ?_
  split
  · exact .refl s
  · exact .refl s
  · exact s.closeLot_sane

theorem handleSetHold_sane (p : Payload) (s : State) : Sane s (handleSetHold p s).1 :=
  noPayload_sane _ _ _ (s.setQualityHold_eases _).sane
theorem handleClearHold_sane (p : Payload) (s : State) : Sane s (handleClearHold p s).1 :=
  noPayload_sane _ _ _ (s.clearQualityHold_sane _)
theorem handleHalt_sane (p : Payload) (s : State) : Sane s (handleHalt p s).1 := by
  refine noPayload_sane _ _ _ ?_
  show Sane s (if s.cmc.mode = .halt then s else s.enterHalt 7)
  split
  · exact .refl s
  · exact s.enterHalt_sane 7
theorem handleReadConditions_sane (p : Payload) (s : State) : Sane s (handleReadConditions p s).1 :=
  noPayload_sane _ _ _ (.refl s)
theorem handleClearConditions_sane (p : Payload) (s : State) : Sane s (handleClearConditions p s).1 :=
  withMask_sane _ _ _ fun _ => .of_fields rfl rfl rfl rfl rfl rfl rfl

@[simp] theorem State.noticeConditions_quiet (cs : List Condition) (s : State) :
    (s.noticeConditions cs).quiet = s.quiet := by
  unfold State.noticeConditions
  induction cs generalizing s with
  | nil => rfl
  | cons c cs ih => simp only [List.foldl_cons]; rw [ih]; simp

theorem handleSetAlertEnables_sane (p : Payload) (s : State) : Sane s (handleSetAlertEnables p s).1 :=
  withMask_sane _ _ _ fun m =>
    Sane.trans (t := s.setCmc { s.cmc with enables := m }) (.of_fields rfl rfl rfl rfl rfl rfl rfl)
      (.of_quiet (State.noticeConditions_quiet _ _))

theorem handleWarmRestart_sane (p : Payload) (s : State) : Sane s (handleWarmRestart p s).1 := by
  refine noPayload_sane _ _ _ ?_
  (repeat' split) <;> first | exact .refl s | exact .of_fields rfl rfl rfl rfl rfl rfl rfl

/-! ## Recipe Store -/

/-- No field is bad when the first is in range and none of the rest is bad. -/
theorem firstBad_cons (f : FieldSpec) (fs : List FieldSpec) (v : Int) (vs : List Int) (n : Nat) :
    firstBad (f :: fs) (v :: vs) n = none ↔ f.admits v = true ∧ firstBad fs vs (n + 1) = none := by
  rw [firstBad]
  split <;> simp_all

/-- Values without a refusal are in range, and the cross-field test holds (R4). -/
theorem valueRefusal_none (fs : List FieldSpec) (vs : List Int) (n : Nat × Bool) (h : valueRefusal fs vs [n] = none) :
    firstBad fs vs 1 = none ∧ n.2 = true := by
  unfold valueRefusal at h
  split at h
  · cases h
  · refine ⟨by assumption, ?_⟩
    unfold crossRefusal at h
    split at h <;> simp_all

/-- A layout that LOAD_LAYOUT takes is in range (R5). -/
theorem layoutOf_inRange (p : Payload) (len : p.length = fieldsLength (layoutFields (p.getD 1 0).toNat))
    (h : valueRefusal (layoutFields (p.getD 1 0).toNat) (fieldValues (layoutFields (p.getD 1 0).toNat) p)
      [(9, decide (fieldAt (fieldValues (layoutFields (p.getD 1 0).toNat) p) 8 <
        fieldAt (fieldValues (layoutFields (p.getD 1 0).toNat) p) 9))] = none) :
    (layoutOf (fieldValues (layoutFields (p.getD 1 0).toNat) p)).InRange := by
  have e : beNat ((p.drop 1).take 1) = (p.getD 1 0).toNat := by
    match p with
    | [] | [_] => simp [fieldsLength, layoutFields] at len
    | _ :: _ :: _ => simp [beNat]
  generalize (p.getD 1 0).toNat = c at *
  subst e
  obtain ⟨bad, cross⟩ := valueRefusal_none _ _ _ h
  simp [fieldValues, layoutFields, firstBad_cons, FieldSpec.admits, fieldAt] at bad cross
  simp [layoutOf, fieldNat, fieldAt, fieldValues, layoutFields, Layout.InRange]
  omega

theorem handleLoadLayout_sane (p : Payload) (s : State) : Sane s (handleLoadLayout p s).1 := by
  unfold handleLoadLayout State.load
  split
  · exact .refl s
  rename_i len
  split
  · exact .refl s
  split
  · exact .refl s
  rename_i h
  exact ⟨id, id, id, rfl, rfl, fun _ _ => layoutOf_inRange p (by omega) h⟩
theorem handleLoadWires_sane (p : Payload) (s : State) : Sane s (handleLoadWires p s).1 := by
  simp only [handleLoadWires]
  (repeat' split) <;> first | exact .refl s | exact s.setRs_sane _ rfl
theorem handleLoadBondSet_sane (p : Payload) (s : State) : Sane s (handleLoadBondSet p s).1 :=
  s.load_sane _ _ _ _ _ fun _ => s.setRs_sane _ rfl
theorem handleLoadLoop_sane (p : Payload) (s : State) : Sane s (handleLoadLoop p s).1 :=
  s.load_sane _ _ _ _ _ fun _ => s.setRs_sane _ rfl
theorem handleLoadPlan_sane (p : Payload) (s : State) : Sane s (handleLoadPlan p s).1 := by
  simp only [handleLoadPlan]
  (repeat' split) <;> first | exact .refl s | exact s.setRs_sane _ rfl

@[simp] theorem State.headConfigTaken_quiet (s : State) (h : HeadId) (b : Bool) :
    (s.headConfigTaken h b).quiet = s.quiet := by
  unfold State.headConfigTaken
  dsimp only
  rw [State.judgeConsumables_quiet]
  split
  · rw [State.setHead_quiet]
  · rw [State.enterIdle_quiet]
  · rfl

theorem handleLoadHeadConfig_sane (p : Payload) (s : State) : Sane s (handleLoadHeadConfig p s).1 := by
  refine s.load_sane _ _ _ _ _ fun v => ?_
  dsimp only
  split
  · exact .refl s
  · exact Sane.trans (s.setRs_sane _ (by rfl)) (.of_quiet (State.headConfigTaken_quiet ..))
theorem handleLoadTrackConfig_sane (p : Payload) (s : State) : Sane s (handleLoadTrackConfig p s).1 :=
  s.load_sane _ _ _ _ _ fun _ => Sane.trans (s.setRs_sane _ (by rfl)) (.of_quiet (State.trackConfigTaken_quiet _))
theorem handleReadRecipeItem_sane (p : Payload) (s : State) : Sane s (handleReadRecipeItem p s).1 := by
  simp only [handleReadRecipeItem]
  (repeat' split) <;> exact .refl s
theorem handleCheckRecipe_sane (p : Payload) (s : State) : Sane s (handleCheckRecipe p s).1 := by
  unfold handleCheckRecipe; split <;> exact .refl s

/-! ## Heads, track, Drive Line, pull station -/

theorem handleHeadStatus_sane (p : Payload) (s : State) : Sane s (handleHeadStatus p s).1 :=
  withHead_sane _ _ _ fun _ => .refl s
theorem handleResumeHead_sane (p : Payload) (s : State) : Sane s (handleResumeHead p s).1 := by
  refine withHead_sane _ _ _ fun h => ?_
  split <;> first | exact .refl s | exact .of_quiet (State.resume_quiet ..)

@[simp] theorem State.setCapillary_quiet (s : State) (h : HeadId) (n : Nat) : (s.setCapillary h n).quiet = s.quiet := by
  simp only [State.setCapillary, State.writeEvent_quiet]
  split <;> simp
@[simp] theorem State.fillSpool_quiet (s : State) (h : HeadId) : (s.fillSpool h).quiet = s.quiet := by
  simp [State.fillSpool]

theorem handleSetCapillaryCount_sane (p : Payload) (s : State) : Sane s (handleSetCapillaryCount p s).1 := by
  simp only [handleSetCapillaryCount]
  (repeat' split) <;> first | exact .refl s | exact .of_quiet (State.setCapillary_quiet ..)
theorem handleLoadSpool_sane (p : Payload) (s : State) : Sane s (handleLoadSpool p s).1 := by
  refine withHead_sane _ _ _ fun h => ?_
  split <;> first | exact .refl s | exact .of_quiet (State.fillSpool_quiet ..)
theorem handleStripMap_sane (p : Payload) (s : State) : Sane s (handleStripMap p s).1 := by
  simp only [handleStripMap]
  (repeat' split) <;> first | exact .refl s | exact s.setTrc_sane _
theorem handleTrackStatus_sane (p : Payload) (s : State) : Sane s (handleTrackStatus p s).1 :=
  noPayload_sane _ _ _ (.refl s)
theorem handleMagazineStatus_sane (p : Payload) (s : State) : Sane s (handleMagazineStatus p s).1 := by
  simp only [handleMagazineStatus]
  (repeat' split) <;> exact .refl s
theorem handleDriveStatus_sane (p : Payload) (s : State) : Sane s (handleDriveStatus p s).1 :=
  noPayload_sane _ _ _ (.refl s)
theorem handleClassify_sane (p : Payload) (s : State) : Sane s (handleClassify p s).1 := by
  simp only [handleClassify]
  (repeat' split) <;> first | exact .refl s | exact (s.classifyPull_eases _ _ _).sane
theorem handleLotStats_sane (p : Payload) (s : State) : Sane s (handleLotStats p s).1 := noPayload_sane _ _ _ (.refl s)
theorem handlePullQueueStatus_sane (p : Payload) (s : State) : Sane s (handlePullQueueStatus p s).1 := by
  simp only [handlePullQueueStatus]
  (repeat' split) <;> exact .refl s

/-! ## Record Memory -/

theorem handleSetRegions_sane (p : Payload) (s : State) : Sane s (handleSetRegions p s).1 := by
  simp only [handleSetRegions]
  (repeat' split) <;> first | exact .refl s | exact s.setRm_sane _
theorem handleRegionStatus_sane (p : Payload) (s : State) : Sane s (handleRegionStatus p s).1 := by
  simp only [handleRegionStatus]
  (repeat' split) <;> exact .refl s
theorem handleReadRecords_sane (p : Payload) (s : State) : Sane s (handleReadRecords p s).1 := by
  simp only [handleReadRecords]
  (repeat' split) <;> exact .refl s

theorem State.release_quiet (s : State) (i : RegionId) (n : Nat) : (s.release i n).1.quiet = s.quiet := by
  simp only [State.release]
  split <;> simp

theorem handleReleaseRecords_sane (p : Payload) (s : State) : Sane s (handleReleaseRecords p s).1 := by
  simp only [handleReleaseRecords]
  (repeat' split) <;> first | exact .refl s | exact .of_quiet (s.release_quiet _ _)

/-! ## Panel -/

theorem handleSetPanelTiming_sane (p : Payload) (s : State) : Sane s (handleSetPanelTiming p s).1 := by
  simp only [handleSetPanelTiming]
  (repeat' split) <;> first | exact .refl s | exact s.setPnc_sane _

theorem handleScreenBegin_sane (rest : Payload) (s : State) : Sane s (handleScreenBegin rest s).1 := by
  simp only [handleScreenBegin]
  split
  · exact .refl s
  · refine withSlot_sane _ _ _ fun n => ?_
    split <;> first | exact .refl s | exact s.setPnc_sane _
theorem handleScreenText_sane (rest : Payload) (s : State) : Sane s (handleScreenText rest s).1 := by
  simp only [handleScreenText]
  split
  · exact .refl s
  · refine withSlot_sane _ _ _ fun n => withBuild_sane _ _ _ fun t => ?_
    (repeat' split) <;> first | exact .refl s | exact s.setPnc_sane _
theorem handleScreenFields_sane (rest : Payload) (s : State) : Sane s (handleScreenFields rest s).1 := by
  simp only [handleScreenFields]
  split
  · exact .refl s
  · refine withSlot_sane _ _ _ fun n => withBuild_sane _ _ _ fun t => ?_
    (repeat' split) <;> first | exact .refl s | exact s.setPnc_sane _
theorem handleScreenCommit_sane (rest : Payload) (s : State) : Sane s (handleScreenCommit rest s).1 := by
  simp only [handleScreenCommit]
  split
  · exact .refl s
  · refine withSlot_sane _ _ _ fun n => withBuild_sane _ _ _ fun t => s.setPnc_sane _
theorem handleLoadScreen_sane (p : Payload) (s : State) : Sane s (handleLoadScreen p s).1 := by
  simp only [handleLoadScreen]
  split
  · exact .refl s
  · split
    · exact handleScreenBegin_sane _ s
    · exact handleScreenText_sane _ s
    · exact handleScreenFields_sane _ s
    · exact handleScreenCommit_sane _ s
    · split <;> exact .refl s

theorem handleShowScreen_sane (p : Payload) (s : State) : Sane s (handleShowScreen p s).1 := by
  simp only [handleShowScreen]
  (repeat' split) <;> first | exact .refl s | exact s.setPnc_sane _
theorem handleShowPattern_sane (p : Payload) (s : State) : Sane s (handleShowPattern p s).1 := by
  simp only [handleShowPattern]
  (repeat' split) <;> first | exact .refl s | exact s.setPnc_sane _
theorem handleRaisePrompt_sane (p : Payload) (s : State) : Sane s (handleRaisePrompt p s).1 := by
  simp only [handleRaisePrompt]
  (repeat' split) <;> first | exact .refl s | exact .of_quiet (State.raiseNote_quiet ..)
theorem handleWithdrawPrompt_sane (p : Payload) (s : State) : Sane s (handleWithdrawPrompt p s).1 := by
  simp only [handleWithdrawPrompt]
  (repeat' split) <;> first | exact .refl s | exact .of_quiet (State.removePrompt_quiet ..)
theorem handlePromptStatus_sane (p : Payload) (s : State) : Sane s (handlePromptStatus p s).1 :=
  noPayload_sane _ _ _ (.refl s)
theorem handleSetTone_sane (p : Payload) (s : State) : Sane s (handleSetTone p s).1 := by
  simp only [handleSetTone]
  (repeat' split) <;> first | exact .refl s | exact s.setPnc_sane _

/-! ## One dispatched frame (R197) -/

theorem handlerOf_sane (code : Nat) (h : Payload → State → State × Payload) (k : handlerOf code = some h)
    (p : Payload) (s : State) : Sane s (h p s).1 := by
  unfold handlerOf at k
  split at k
  · cases k; exact handleIdentify_sane p s
  · cases k; exact handleLinkEcho_sane p s
  · cases k; exact handleSetMode_sane p s
  · cases k; exact handleGetCellStatus_sane p s
  · cases k; exact handleStartLot_sane p s
  · cases k; exact handleEndLot_sane p s
  · cases k; exact handleSetHold_sane p s
  · cases k; exact handleClearHold_sane p s
  · cases k; exact handleHalt_sane p s
  · cases k; exact handleReadConditions_sane p s
  · cases k; exact handleClearConditions_sane p s
  · cases k; exact handleSetAlertEnables_sane p s
  · cases k; exact handleWarmRestart_sane p s
  · cases k; exact handleLoadLayout_sane p s
  · cases k; exact handleLoadWires_sane p s
  · cases k; exact handleLoadBondSet_sane p s
  · cases k; exact handleLoadLoop_sane p s
  · cases k; exact handleLoadPlan_sane p s
  · cases k; exact handleLoadHeadConfig_sane p s
  · cases k; exact handleLoadTrackConfig_sane p s
  · cases k; exact handleReadRecipeItem_sane p s
  · cases k; exact handleCheckRecipe_sane p s
  · cases k; exact handleHeadStatus_sane p s
  · cases k; exact handleResumeHead_sane p s
  · cases k; exact handleSetCapillaryCount_sane p s
  · cases k; exact handleLoadSpool_sane p s
  · cases k; exact handleStripMap_sane p s
  · cases k; exact handleTrackStatus_sane p s
  · cases k; exact handleMagazineStatus_sane p s
  · cases k; exact handleDriveStatus_sane p s
  · cases k; exact handleClassify_sane p s
  · cases k; exact handleLotStats_sane p s
  · cases k; exact handlePullQueueStatus_sane p s
  · cases k; exact handleSetRegions_sane p s
  · cases k; exact handleRegionStatus_sane p s
  · cases k; exact handleReadRecords_sane p s
  · cases k; exact handleReleaseRecords_sane p s
  · cases k; exact handleSetPanelTiming_sane p s
  · cases k; exact handleLoadScreen_sane p s
  · cases k; exact handleShowScreen_sane p s
  · cases k; exact handleShowPattern_sane p s
  · cases k; exact handleRaisePrompt_sane p s
  · cases k; exact handleWithdrawPrompt_sane p s
  · cases k; exact handlePromptStatus_sane p s
  · cases k; exact handleSetTone_sane p s
  · cases k

/-- Only the request codes of the code table have a handler (R200). -/
theorem handlerOf_listed (code : Nat) (h : Payload → State → State × Payload) (k : handlerOf code = some h) :
    requestCodes.contains code = true := by
  unfold handlerOf at k
  split at k <;> first | rfl | cases k

theorem handlerOf_unlisted (code : Nat) (h : requestCodes.contains code = false) : handlerOf code = none := by
  cases k : handlerOf code with
  | none => rfl
  | some f => rw [handlerOf_listed code f k] at h; cases h

theorem State.handle_sane (s : State) (f : Frame) : Sane s (s.handle f).1 := by
  unfold State.handle
  split
  · rename_i h k; exact handlerOf_sane _ h k _ _
  · exact .refl s

theorem State.dispatch_sane (s : State) (f : Frame) : Sane s (s.dispatch f) :=
  (s.handle_sane f).trans (.of_fields rfl rfl rfl rfl rfl rfl rfl)

end Sys2Proof.Machine
end

