-- ==== Sys2Proof/Laws/Steps.lean ====
section
/-! SUPPORT. The panel's keys, the frame start, the band, the feed and the resets: what they keep; and the receive queue while a
frame is offered. -/

namespace Sys2Proof.Machine

open Sys2Proof

/-! ## Panel -/

theorem State.applyTiming_sane (s : State) : Sane s s.applyTiming := by
  simp only [State.applyTiming]
  (repeat' split)
  · exact .refl s
  · exact (s.setPnc_sane _).trans (.of_quiet (State.setCondition_quiet _ _))
  · exact s.setPnc_sane _

theorem State.startFrame_sane (s : State) : Sane s s.startFrame :=
  (s.applyTiming_sane.trans (State.setPnc_sane _ _)).trans (State.setPnc_sane _ _)

theorem State.key_sane (s : State) (f : State → State) (h : Sane s (f s)) : Sane s (s.key f) := by
  unfold State.key; split
  · exact s.setPnc_sane _
  · exact h

theorem State.pressF_sane (s : State) (k : Nat) : Sane s (s.pressF k) := by
  unfold State.pressF
  (repeat' split) <;>
    first
    | exact .refl s
    | exact .of_quiet (State.chirp_quiet s)
    | exact .of_quiet (State.handNotice_quiet _ _)
    | exact (s.classifyPull_eases _ _ _).sane

@[simp] theorem State.promptAck_quiet (s : State) (p : Prompt) : (s.promptAck p).quiet = s.quiet := by
  simp [State.promptAck]
@[simp] theorem State.ackRemoves_quiet (s : State) (p : Prompt) : (s.ackRemoves p).quiet = s.quiet := by
  simp [State.ackRemoves]
@[simp] theorem State.ackHead_quiet (s : State) (p : Prompt) : (s.ackHead p).quiet = s.quiet := by
  unfold State.ackHead; (repeat' split) <;> simp

theorem State.ackPrompt_sane (s : State) (p : Prompt) : Sane s (s.ackPrompt p) := by
  unfold State.ackPrompt
  split
  case h_6 =>
    split
    · exact (s.clearQualityHold_sane 2).trans (.of_quiet (State.promptAck_quiet _ _))
    · exact .of_quiet (by simp)
  case h_8 => split <;> exact .of_quiet (by simp)
  case h_9 =>
    have a : Sane s (s.setCmc { s.cmc with trackCheck := true }) := .of_fields rfl rfl rfl rfl rfl rfl rfl
    exact a.trans (.of_quiet (by simp))
  all_goals exact .of_quiet (by simp)

theorem State.pressAck_sane (s : State) : Sane s s.pressAck := by
  unfold State.pressAck; split
  · exact .of_quiet (by simp)
  · exact s.ackPrompt_sane _

/-! ## Resets (R192, R193) -/

@[simp] theorem State.startHead_quiet (s : State) (h : HeadId) : (s.startHead h).quiet = s.quiet := by
  unfold State.startHead; split <;> simp
@[simp] theorem State.startTrackCheck_quiet (s : State) : s.startTrackCheck.quiet = s.quiet := by
  unfold State.startTrackCheck; split <;> simp
@[simp] theorem State.judgeAgain_quiet (s : State) (h : HeadId) : (s.judgeAgain h).quiet = s.quiet := by
  simp [State.judgeAgain]

/-- The state after the blocks' start keeps the queue of commands, and the HALT rule holds. -/
theorem State.startHalt_spec (s : State) (hold : s.cmc.hold = none) (mode : s.cmc.mode = .setup) :
    s.startHalt.haltRule = true ∧ s.startHalt.holdRule = true ∧ s.startHalt.noticesFit = s.noticesFit ∧
      s.startHalt.link.rxQueue = s.link.rxQueue ∧ s.startHalt.pending = s.pending ∧ s.startHalt.rs = s.rs := by
  unfold State.startHalt
  split
  · exact ⟨by simp [State.haltRule, s.enterHalt_mode], by simp [State.holdRule, s.enterHalt_mode],
      State.firm_fits (s.enterHalt_eases 6).firm, (s.enterHalt_sane 6).rxQueue, (s.enterHalt_sane 6).pending,
      (State.firm_rs (s.enterHalt_eases 6).firm).trans rfl⟩
  · simp_all [State.haltRule, State.holdRule]

/-! ## The receive queue (R196) -/

theorem State.dispatchOne_rxQueue_le (s : State) : s.dispatchOne.link.rxQueue.length ≤ s.link.rxQueue.length := by
  unfold State.dispatchOne
  split
  · rename_i f fs h _ _
    rw [(State.dispatch_sane _ f).rxQueue, h]
    simp
  · exact Nat.le_refl _

theorem State.dispatchOne_keeps (s : State) :
    (s.holdRule = true → s.dispatchOne.holdRule = true) ∧ (s.haltRule = true → s.dispatchOne.haltRule = true) ∧
      (s.noticesFit = true → s.dispatchOne.noticesFit = true) ∧ s.dispatchOne.pending = s.pending ∧
      (s.layoutRule → s.dispatchOne.layoutRule) := by
  unfold State.dispatchOne
  split
  · rename_i f fs _ _ _
    have k := State.dispatch_sane (s.setLink { s.link with rxQueue := fs }) f
    exact ⟨k.hold, k.halt, k.fits, k.pending, k.layout⟩
  · exact ⟨id, id, id, rfl, id⟩

/-- While transmitter and dispatcher take turns the rules survive and the receive queue does not grow. -/
theorem State.settle_keeps (n : Nat) (s : State) :
    (s.holdRule = true → (s.settle n).holdRule = true) ∧ (s.haltRule = true → (s.settle n).haltRule = true) ∧
      (s.noticesFit = true → (s.settle n).noticesFit = true) ∧ (s.settle n).pending = s.pending ∧
      (s.settle n).link.rxQueue.length ≤ s.link.rxQueue.length ∧ (s.layoutRule → (s.settle n).layoutRule) := by
  induction n generalizing s with
  | zero =>
    have k := s.txChoose_sane
    exact ⟨k.hold, k.halt, k.fits, k.pending, Nat.le_of_eq (congrArg List.length k.rxQueue), k.layout⟩
  | succ n ih =>
    have k := s.txChoose_sane
    have d := s.txChoose.dispatchOne_keeps
    obtain ⟨a, b, c, e, f, g⟩ := ih s.txChoose.dispatchOne
    refine ⟨fun h => a (d.1 (k.hold h)), fun h => b (d.2.1 (k.halt h)), fun h => c (d.2.2.1 (k.fits h)),
      e.trans (d.2.2.2.1.trans k.pending), Nat.le_trans f (Nat.le_trans (State.dispatchOne_rxQueue_le _) ?_),
      fun h => g (d.2.2.2.2 (k.layout h))⟩
    exact Nat.le_of_eq (congrArg List.length k.rxQueue)

/-- A frame offered: the rules survive, and a receive queue within its room stays within it. -/
theorem State.offerFrame_keeps (s : State) (f : Frame) :
    (s.holdRule = true → (s.offerFrame f).holdRule = true) ∧ (s.haltRule = true → (s.offerFrame f).haltRule = true) ∧
      (s.noticesFit = true → (s.offerFrame f).noticesFit = true) ∧ (s.offerFrame f).pending = s.pending ∧
      (s.link.rxQueue.length ≤ Config.rxQueueSize →
        (s.offerFrame f).link.rxQueue.length ≤ Config.rxQueueSize) ∧
      (s.layoutRule → (s.offerFrame f).layoutRule) := by
  have a := State.settle_keeps s.link.rxQueue.length s
  have b : (s.settleLink.holdRule = true → (s.settleLink.enqueueFrame f).holdRule = true) ∧
      (s.settleLink.haltRule = true → (s.settleLink.enqueueFrame f).haltRule = true) ∧
      (s.settleLink.noticesFit = true → (s.settleLink.enqueueFrame f).noticesFit = true) ∧
      (s.settleLink.enqueueFrame f).pending = s.settleLink.pending ∧
      (s.settleLink.link.rxQueue.length ≤ Config.rxQueueSize →
        (s.settleLink.enqueueFrame f).link.rxQueue.length ≤ Config.rxQueueSize) ∧
      (s.settleLink.layoutRule → (s.settleLink.enqueueFrame f).layoutRule) := by
    generalize s.settleLink = u
    unfold State.enqueueFrame
    split
    · exact ⟨id, id, id, rfl, fun _ => by simpa using by assumption, id⟩
    · have k := Sane.of_quiet (State.setCondition_quiet u .linkOverrun)
      exact ⟨k.hold, k.halt, k.fits, k.pending, fun h => by rw [k.rxQueue]; exact h, k.layout⟩
  have c := State.settle_keeps (s.settleLink.enqueueFrame f).link.rxQueue.length (s.settleLink.enqueueFrame f)
  refine ⟨fun h => c.1 (b.1 (a.1 h)), fun h => c.2.1 (b.2.1 (a.2.1 h)), fun h => c.2.2.1 (b.2.2.1 (a.2.2.1 h)),
    c.2.2.2.1.trans (b.2.2.2.1.trans a.2.2.2.1),
    fun h => Nat.le_trans c.2.2.2.2.1 (b.2.2.2.2.1 (Nat.le_trans a.2.2.2.2.1 h)),
    fun h => c.2.2.2.2.2 (b.2.2.2.2.2 (a.2.2.2.2.2 h))⟩

end Sys2Proof.Machine
end

