-- ==== Sys2Proof/Laws/Sticky.lean ====
section
/-! SUPPORT. The conditions are sticky (R189): an internal operation may set conditions and never clears one. -/

namespace Sys2Proof.Machine

open Sys2Proof

/-- Every condition set in s is set in t. -/
structure Grows (s t : State) : Prop where
  keeps : ∀ i, s.cmc.conditions.getLsbD i = true → t.cmc.conditions.getLsbD i = true

theorem Grows.refl (s : State) : Grows s s := ⟨fun _ h => h⟩
theorem Grows.trans {s t u : State} (h : Grows s t) (k : Grows t u) : Grows s u := ⟨fun i x => k.keeps i (h.keeps i x)⟩
theorem Grows.of_eq {s t : State} (h : t.cmc.conditions = s.cmc.conditions) : Grows s t := ⟨fun i x => by rw [h]; exact x⟩

/-! ## Updates -/


theorem State.setRs_grows (s : State) (x : RecipeStore) : Grows s (s.setRs x) := .of_eq rfl
theorem State.setHeads_grows (s : State) (x : PerHead Head) : Grows s (s.setHeads x) := .of_eq rfl
theorem State.setStu_grows (s : State) (x : Stu) : Grows s (s.setStu x) := .of_eq rfl
theorem State.setTrc_grows (s : State) (x : Trc) : Grows s (s.setTrc x) := .of_eq rfl
theorem State.setDlc_grows (s : State) (x : Dlc) : Grows s (s.setDlc x) := .of_eq rfl
theorem State.setPsc_grows (s : State) (x : Psc) : Grows s (s.setPsc x) := .of_eq rfl
theorem State.setRm_grows (s : State) (x : Rm) : Grows s (s.setRm x) := .of_eq rfl
theorem State.setPnc_grows (s : State) (x : Pnc) : Grows s (s.setPnc x) := .of_eq rfl
theorem State.setLink_grows (s : State) (x : Link) : Grows s (s.setLink x) := .of_eq rfl
theorem State.setHead_grows (s : State) (h : HeadId) (x : Head) : Grows s (s.setHead h x) := .of_eq rfl
theorem State.setRegion_grows (s : State) (i : RegionId) (x : Region) : Grows s (s.setRegion i x) := .of_eq rfl
theorem State.setDrive_grows (s : State) (d : Drive) (x : DriveState) : Grows s (s.setDrive d x) := .of_eq rfl

/-! ## Operations -/

theorem State.setBits_grows (s : State) (x : BitVec 22) :
    Grows s (s.setCmc { s.cmc with conditions := s.cmc.conditions ||| x }) := ⟨fun i h => by simp [h]⟩
theorem State.handNotice_grows (s : State) (n : Notice) : Grows s (s.handNotice n) := by
  unfold State.handNotice
  split
  · exact s.setLink_grows _
  · exact s.setBits_grows _
theorem State.setCondition_grows (s : State) (c : Condition) : Grows s (s.setCondition c) := by
  simp only [State.setCondition]
  (repeat' split)
  · exact .refl s
  · exact (s.setBits_grows _).trans (State.handNotice_grows _ _)
  · exact s.setBits_grows _
theorem State.reserve_grows (s : State) (i : RegionId) : Grows s (s.reserve i).1 := by
  simp only [State.reserve]
  split
  · exact s.setRegion_grows _ _
  · exact (s.setRegion_grows _ _).trans (State.setCondition_grows _ _)
theorem State.createRecord_grows (s : State) (mag slot : Nat) (bad : Option (BitVec 192)) :
    Grows s (s.createRecord mag slot bad) := .of_eq rfl
theorem State.watermarkRise_grows (s : State) (i : RegionId) :
    Grows s (s.watermarkRise i) := by
  simp only [State.watermarkRise]
  (repeat' split) <;> repeat
    with_reducible
      first
      | exact .refl _
      | apply Grows.trans ?_ (State.handNotice_grows _ _)
      | apply Grows.trans ?_ (State.setRegion_grows _ _ _)
theorem State.commit_grows (s : State) (i : RegionId) (mk : Nat → Record) :
    Grows s (s.commit i mk) := by
  simp only [State.commit]
  repeat
    with_reducible
      first
      | exact .refl _
      | apply Grows.trans ?_ (State.setRegion_grows _ _ _)
      | apply Grows.trans ?_ (State.watermarkRise_grows _ _)
theorem State.writeEvent_grows (s : State) (code : EventCode) (source arg : Nat) :
    Grows s (s.writeEvent code source arg) := by
  simp only [State.writeEvent]
  (repeat' split) <;> repeat
    with_reducible
      first
      | exact .refl _
      | apply Grows.trans ?_ (State.setCondition_grows _ _)
      | apply Grows.trans ?_ (State.setRegion_grows _ _ _)
      | apply Grows.trans ?_ (State.watermarkRise_grows _ _)
theorem State.chirp_grows (s : State) :
    Grows s s.chirp := by
  simp only [State.chirp]
  repeat
    with_reducible
      first
      | exact .refl _
      | apply Grows.trans ?_ (State.setPnc_grows _ _)
theorem State.raiseNote_grows (s : State) (kind : PromptKind) (source : Nat) (severity : Severity) (arg : Nat) (text : List Byte) :
    Grows s (s.raiseNote kind source severity arg text) := by
  simp only [State.raiseNote]
  (repeat' split) <;> repeat
    with_reducible
      first
      | exact .refl _
      | apply Grows.trans ?_ (State.handNotice_grows _ _)
      | apply Grows.trans ?_ (State.setPnc_grows _ _)
theorem State.raisePrompt_grows (s : State) (kind : PromptKind) (source arg : Nat) :
    Grows s (s.raisePrompt kind source arg) := by
  simp only [State.raisePrompt]
  repeat
    with_reducible
      first
      | exact .refl _
      | apply Grows.trans ?_ (State.raiseNote_grows _ _ _ _ _ _)
theorem State.removePrompt_grows (s : State) (kind : PromptKind) (source : Nat) :
    Grows s (s.removePrompt kind source) := by
  simp only [State.removePrompt]
  (repeat' split) <;> repeat
    with_reducible
      first
      | exact .refl _
      | apply Grows.trans ?_ (State.handNotice_grows _ _)
      | apply Grows.trans ?_ (State.setPnc_grows _ _)
theorem State.testHeadGates_grows (s : State) (h : HeadId) :
    Grows s (s.testHeadGates h) := by
  simp only [State.testHeadGates]
  (repeat' split) <;> repeat
    with_reducible
      first
      | exact .refl _
      | apply Grows.trans ?_ (State.setHead_grows _ _ _)
theorem State.testBothHeads_grows (s : State) :
    Grows s s.testBothHeads := by
  simp only [State.testBothHeads]
  repeat
    with_reducible
      first
      | exact .refl _
      | apply Grows.trans ?_ (State.testHeadGates_grows _ _)
theorem State.testFeed_grows (s : State) :
    Grows s s.testFeed := by
  simp only [State.testFeed]
  (repeat' split) <;> repeat
    with_reducible
      first
      | exact .refl _
      | apply Grows.trans ?_ (State.setTrc_grows _ _)
theorem State.testPullGates_grows (s : State) :
    Grows s s.testPullGates := by
  simp only [State.testPullGates]
  (repeat' split) <;> repeat
    with_reducible
      first
      | exact .refl _
      | apply Grows.trans ?_ (State.setCondition_grows _ _)
      | apply Grows.trans ?_ (State.setPsc_grows _ _)
theorem State.roomNotice_grows (s : State) (i : RegionId) :
    Grows s (s.roomNotice i) := by
  simp only [State.roomNotice]
  (repeat' split) <;> repeat
    with_reducible
      first
      | exact .refl _
      | apply Grows.trans ?_ (State.setTrc_grows _ _)
      | apply Grows.trans ?_ (State.setPsc_grows _ _)
      | apply Grows.trans ?_ (State.setHead_grows _ _ _)
      | apply Grows.trans ?_ (State.testHeadGates_grows _ _)
      | apply Grows.trans ?_ (State.testFeed_grows _)
      | apply Grows.trans ?_ (State.testPullGates_grows _)
theorem State.roomFell_grows (s : State) (i : RegionId) :
    Grows s (s.roomFell i) := by
  simp only [State.roomFell]
  (repeat' split) <;> repeat
    with_reducible
      first
      | exact .refl _
      | apply Grows.trans ?_ (State.setRegion_grows _ _ _)
      | apply Grows.trans ?_ (State.roomNotice_grows _ _)
theorem State.returnReservation_grows (s : State) (i : RegionId) :
    Grows s (s.returnReservation i) := by
  simp only [State.returnReservation]
  repeat
    with_reducible
      first
      | exact .refl _
      | apply Grows.trans ?_ (State.setRegion_grows _ _ _)
      | apply Grows.trans ?_ (State.roomFell_grows _ _)
theorem State.handOver_grows (s : State) (d : Drive) (op : DriveOp) :
    Grows s (s.handOver d op) := by
  simp only [State.handOver]
  repeat
    with_reducible
      first
      | exact .refl _
      | apply Grows.trans ?_ (State.setDlc_grows _ _)
theorem State.updateStrip_grows (s : State) (serial : Nat) (f : StripRecord → StripRecord) :
    Grows s (s.updateStrip serial f) := by
  simp only [State.updateStrip]
  repeat
    with_reducible
      first
      | exact .refl _
      | apply Grows.trans ?_ (State.setStu_grows _ _)
theorem State.moveUnit_grows (s : State) (u : UnitRef) (source target : UnitState) :
    Grows s (s.moveUnit u source target) := by
  simp only [State.moveUnit]
  repeat
    with_reducible
      first
      | exact .refl _
      | apply Grows.trans ?_ (State.updateStrip_grows _ _ _)
theorem State.suspend_grows (s : State) (h : HeadId) (why : Reason) :
    Grows s (s.suspend h why) := by
  simp only [State.suspend]
  repeat
    with_reducible
      first
      | exact .refl _
      | apply Grows.trans ?_ (State.handNotice_grows _ _)
      | apply Grows.trans ?_ (State.setCondition_grows _ _)
      | apply Grows.trans ?_ (State.setHead_grows _ _ _)
      | apply Grows.trans ?_ (State.writeEvent_grows _ _ _ _)
      | apply Grows.trans ?_ (State.raisePrompt_grows _ _ _ _)
theorem State.giveUnit_grows (s : State) (h : HeadId) (u : UnitRef) :
    Grows s (s.giveUnit h u) := by
  simp only [State.giveUnit]
  repeat
    with_reducible
      first
      | exact .refl _
      | apply Grows.trans ?_ (State.setHead_grows _ _ _)
      | apply Grows.trans ?_ (State.moveUnit_grows _ _ _ _)
theorem State.askWork_grows (s : State) (h : HeadId) :
    Grows s (s.askWork h) := by
  simp only [State.askWork]
  (repeat' split) <;> repeat
    with_reducible
      first
      | exact .refl _
      | apply Grows.trans ?_ (State.setStu_grows _ _)
      | apply Grows.trans ?_ (State.setHead_grows _ _ _)
      | apply Grows.trans ?_ (State.testHeadGates_grows _ _)
      | apply Grows.trans ?_ (State.giveUnit_grows _ _ _)
theorem State.enterIdle_grows (s : State) (h : HeadId) :
    Grows s (s.enterIdle h) := by
  simp only [State.enterIdle]
  (repeat' split) <;> repeat
    with_reducible
      first
      | exact .refl _
      | apply Grows.trans ?_ (State.setHead_grows _ _ _)
      | apply Grows.trans ?_ (State.suspend_grows _ _ _)
      | apply Grows.trans ?_ (State.askWork_grows _ _)
theorem State.askIfIdle_grows (s : State) (h : HeadId) :
    Grows s (s.askIfIdle h) := by
  simp only [State.askIfIdle]
  (repeat' split) <;> repeat
    with_reducible
      first
      | exact .refl _
      | apply Grows.trans ?_ (State.askWork_grows _ _)
theorem State.endRequest_grows (s : State) (h : HeadId) :
    Grows s (s.endRequest h) := by
  simp only [State.endRequest]
  (repeat' split) <;> repeat
    with_reducible
      first
      | exact .refl _
      | apply Grows.trans ?_ (State.setStu_grows _ _)
      | apply Grows.trans ?_ (State.setHead_grows _ _ _)
      | apply Grows.trans ?_ (State.enterIdle_grows _ _)
theorem State.endRequests_grows (s : State) :
    Grows s s.endRequests := by
  simp only [State.endRequests]
  repeat
    with_reducible
      first
      | exact .refl _
      | apply Grows.trans ?_ (State.endRequest_grows _ _)
theorem State.grantBand_grows (s : State) (h : HeadId) (u : UnitRef) :
    Grows s (s.grantBand h u) := by
  simp only [State.grantBand]
  repeat
    with_reducible
      first
      | exact .refl _
      | apply Grows.trans ?_ (State.setStu_grows _ _)
      | apply Grows.trans ?_ (State.testHeadGates_grows _ _)
      | apply Grows.trans ?_ (State.giveUnit_grows _ _ _)
theorem State.decideBand_grows (s : State) :
    Grows s s.decideBand := by
  simp only [State.decideBand]
  (repeat' split) <;> repeat
    with_reducible
      first
      | exact .refl _
      | apply Grows.trans ?_ (State.endRequests_grows _)
      | apply Grows.trans ?_ (State.grantBand_grows _ _ _)
theorem State.testBondCompletion_grows (s : State) :
    Grows s s.testBondCompletion := by
  simp only [State.testBondCompletion]
  (repeat' split) <;> repeat
    with_reducible
      first
      | exact .refl _
      | apply Grows.trans ?_ (State.updateStrip_grows _ _ _)
      | apply Grows.trans ?_ (State.endRequests_grows _)
theorem State.unitOutcome_grows (s : State) (h : HeadId) (outcome : UnitState) :
    Grows s (s.unitOutcome h outcome) := by
  simp only [State.unitOutcome]
  (repeat' split) <;> repeat
    with_reducible
      first
      | exact .refl _
      | apply Grows.trans ?_ (State.setStu_grows _ _)
      | apply Grows.trans ?_ (State.setHead_grows _ _ _)
      | apply Grows.trans ?_ (State.moveUnit_grows _ _ _ _)
      | apply Grows.trans ?_ (State.testBondCompletion_grows _)
theorem State.wireEndReport_grows (s : State) (strip : Nat) (outcome : WireOutcome) :
    Grows s (s.wireEndReport strip outcome) := by
  simp only [State.wireEndReport]
  (repeat' split) <;> repeat
    with_reducible
      first
      | exact .refl _
      | apply Grows.trans ?_ (State.updateStrip_grows _ _ _)
theorem State.marginalReport_grows (s : State) (u : UnitRef) (wire : Nat) :
    Grows s (s.marginalReport u wire) := by
  simp only [State.marginalReport]
  repeat
    with_reducible
      first
      | exact .refl _
      | apply Grows.trans ?_ (State.updateStrip_grows _ _ _)
theorem State.pulledReport_grows (s : State) (strip : Nat) (e : PullEntry) :
    Grows s (s.pulledReport strip e) := by
  simp only [State.pulledReport]
  repeat
    with_reducible
      first
      | exact .refl _
      | apply Grows.trans ?_ (State.moveUnit_grows _ _ _ _)
theorem State.indexReport_grows (s : State) :
    Grows s s.indexReport := by
  simp only [State.indexReport]
  (repeat' split) <;> repeat
    with_reducible
      first
      | exact .refl _
      | apply Grows.trans ?_ (State.setStu_grows _ _)
      | apply Grows.trans ?_ (State.askIfIdle_grows _ _)
      | apply Grows.trans ?_ (State.testBondCompletion_grows _)
theorem State.judgeCap_grows (s : State) (h : HeadId) :
    Grows s (s.judgeCap h) := by
  simp only [State.judgeCap]
  (repeat' split) <;> repeat
    with_reducible
      first
      | exact .refl _
      | apply Grows.trans ?_ (State.setCondition_grows _ _)
      | apply Grows.trans ?_ (State.setHead_grows _ _ _)
      | apply Grows.trans ?_ (State.raisePrompt_grows _ _ _ _)
theorem State.rearmCap_grows (s : State) (h : HeadId) :
    Grows s (s.rearmCap h) := by
  simp only [State.rearmCap]
  repeat
    with_reducible
      first
      | exact .refl _
      | apply Grows.trans ?_ (State.setHead_grows _ _ _)
      | apply Grows.trans ?_ (State.removePrompt_grows _ _ _)
      | apply Grows.trans ?_ (State.judgeCap_grows _ _)
theorem State.judgeSpool_grows (s : State) (h : HeadId) :
    Grows s (s.judgeSpool h) := by
  simp only [State.judgeSpool]
  (repeat' split) <;> repeat
    with_reducible
      first
      | exact .refl _
      | apply Grows.trans ?_ (State.setCondition_grows _ _)
      | apply Grows.trans ?_ (State.setHead_grows _ _ _)
      | apply Grows.trans ?_ (State.raisePrompt_grows _ _ _ _)
theorem State.rearmSpool_grows (s : State) (h : HeadId) :
    Grows s (s.rearmSpool h) := by
  simp only [State.rearmSpool]
  repeat
    with_reducible
      first
      | exact .refl _
      | apply Grows.trans ?_ (State.setHead_grows _ _ _)
      | apply Grows.trans ?_ (State.removePrompt_grows _ _ _)
      | apply Grows.trans ?_ (State.judgeSpool_grows _ _)
theorem State.judgeConsumables_grows (s : State) (h : HeadId) :
    Grows s (s.judgeConsumables h) := by
  simp only [State.judgeConsumables]
  (repeat' split) <;> repeat
    with_reducible
      first
      | exact .refl _
      | apply Grows.trans ?_ (State.setHead_grows _ _ _)
      | apply Grows.trans ?_ (State.judgeCap_grows _ _)
      | apply Grows.trans ?_ (State.rearmCap_grows _ _)
      | apply Grows.trans ?_ (State.judgeSpool_grows _ _)
      | apply Grows.trans ?_ (State.rearmSpool_grows _ _)
theorem State.endWire_grows (s : State) (h : HeadId) (outcome : WireOutcome) (setRestart : Bool) (why : Option Reason) :
    Grows s (s.endWire h outcome setRestart why) := by
  simp only [State.endWire]
  (repeat' split) <;> repeat
    with_reducible
      first
      | exact .refl _
      | apply Grows.trans ?_ (State.setHead_grows _ _ _)
      | apply Grows.trans ?_ (State.commit_grows _ _ _)
      | apply Grows.trans ?_ (State.testHeadGates_grows _ _)
      | apply Grows.trans ?_ (State.suspend_grows _ _ _)
      | apply Grows.trans ?_ (State.enterIdle_grows _ _)
      | apply Grows.trans ?_ (State.unitOutcome_grows _ _ _)
      | apply Grows.trans ?_ (State.wireEndReport_grows _ _ _)
      | apply Grows.trans ?_ (State.marginalReport_grows _ _ _)
theorem State.abortWire_grows (s : State) (h : HeadId) (why : Option Reason) :
    Grows s (s.abortWire h why) := by
  simp only [State.abortWire]
  repeat
    with_reducible
      first
      | exact .refl _
      | apply Grows.trans ?_ (State.setHead_grows _ _ _)
      | apply Grows.trans ?_ (State.endWire_grows _ _ _ _ _)
theorem State.driveFault_grows (s : State) (h : HeadId) :
    Grows s (s.driveFault h) := by
  simp only [State.driveFault]
  repeat
    with_reducible
      first
      | exact .refl _
      | apply Grows.trans ?_ (State.abortWire_grows _ _ _)
theorem State.haltHead_grows (s : State) (h : HeadId) :
    Grows s (s.haltHead h) := by
  simp only [State.haltHead]
  (repeat' split) <;> repeat
    with_reducible
      first
      | exact .refl _
      | apply Grows.trans ?_ (State.abortWire_grows _ _ _)
theorem State.wireBreak_grows (s : State) (h : HeadId) :
    Grows s (s.wireBreak h) := by
  simp only [State.wireBreak]
  (repeat' split) <;> repeat
    with_reducible
      first
      | exact .refl _
      | apply Grows.trans ?_ (State.setHead_grows _ _ _)
      | apply Grows.trans ?_ (State.suspend_grows _ _ _)
      | apply Grows.trans ?_ (State.endWire_grows _ _ _ _ _)
theorem State.beginOp_grows (s : State) (h : HeadId) (p : Phase) (op : DriveOp) :
    Grows s (s.beginOp h p op) := by
  simp only [State.beginOp]
  (repeat' split) <;> repeat
    with_reducible
      first
      | exact .refl _
      | apply Grows.trans ?_ (State.setHead_grows _ _ _)
      | apply Grows.trans ?_ (State.handOver_grows _ _ _)
      | apply Grows.trans ?_ (State.haltHead_grows _ _)
theorem State.enterSearch_grows (s : State) (h : HeadId) (n : Snapshot) (b : Bond) :
    Grows s (s.enterSearch h n b) := by
  simp only [State.enterSearch]
  (repeat' split) <;> repeat
    with_reducible
      first
      | exact .refl _
      | apply Grows.trans ?_ (State.beginOp_grows _ _ _ _)
theorem State.enterMove_grows (s : State) (h : HeadId) (n : Snapshot) :
    Grows s (s.enterMove h n) := by
  simp only [State.enterMove]
  repeat
    with_reducible
      first
      | exact .refl _
      | apply Grows.trans ?_ (State.beginOp_grows _ _ _ _)
theorem State.enterLoop_grows (s : State) (h : HeadId) (n : Snapshot) :
    Grows s (s.enterLoop h n) := by
  simp only [State.enterLoop]
  repeat
    with_reducible
      first
      | exact .refl _
      | apply Grows.trans ?_ (State.beginOp_grows _ _ _ _)
theorem State.enterRaise_grows (s : State) (h : HeadId) :
    Grows s (s.enterRaise h) := by
  simp only [State.enterRaise]
  repeat
    with_reducible
      first
      | exact .refl _
      | apply Grows.trans ?_ (State.beginOp_grows _ _ _ _)
theorem State.searchFailed_grows (s : State) (h : HeadId) (b : Bond) (v : Verdict) :
    Grows s (s.searchFailed h b v) := by
  simp only [State.searchFailed]
  repeat
    with_reducible
      first
      | exact .refl _
      | apply Grows.trans ?_ (State.setHead_grows _ _ _)
      | apply Grows.trans ?_ (State.enterRaise_grows _ _)
theorem State.enterWeld_grows (s : State) (h : HeadId) (n : Snapshot) (b : Bond) :
    Grows s (s.enterWeld h n b) := by
  simp only [State.enterWeld]
  (repeat' split) <;> repeat
    with_reducible
      first
      | exact .refl _
      | apply Grows.trans ?_ (State.setHead_grows _ _ _)
theorem State.contact_grows (s : State) (h : HeadId) (n : Snapshot) (b : Bond) (z : Nat) :
    Grows s (s.contact h n b z) := by
  simp only [State.contact]
  (repeat' split) <;> repeat
    with_reducible
      first
      | exact .refl _
      | apply Grows.trans ?_ (State.setHead_grows _ _ _)
      | apply Grows.trans ?_ (State.judgeCap_grows _ _)
      | apply Grows.trans ?_ (State.searchFailed_grows _ _ _ _)
      | apply Grows.trans ?_ (State.enterWeld_grows _ _ _ _)
theorem State.weldExpired_grows (s : State) (h : HeadId) (n : Snapshot) (b : Bond) (z : Nat) :
    Grows s (s.weldExpired h n b z) := by
  simp only [State.weldExpired]
  (repeat' split) <;> repeat
    with_reducible
      first
      | exact .refl _
      | apply Grows.trans ?_ (State.setHead_grows _ _ _)
theorem State.enterSpark_grows (s : State) (h : HeadId) (source : SparkFrom) :
    Grows s (s.enterSpark h source) := by
  simp only [State.enterSpark]
  repeat
    with_reducible
      first
      | exact .refl _
      | apply Grows.trans ?_ (State.setHead_grows _ _ _)
theorem State.checkEnded_grows (s : State) (h : HeadId) (n : Snapshot) (b : Bond) (attached : Bool) :
    Grows s (s.checkEnded h n b attached) := by
  simp only [State.checkEnded]
  (repeat' split) <;> repeat
    with_reducible
      first
      | exact .refl _
      | apply Grows.trans ?_ (State.setHead_grows _ _ _)
      | apply Grows.trans ?_ (State.beginOp_grows _ _ _ _)
      | apply Grows.trans ?_ (State.enterLoop_grows _ _ _)
      | apply Grows.trans ?_ (State.enterRaise_grows _ _)
      | apply Grows.trans ?_ (State.enterSpark_grows _ _ _)
theorem State.sparkSucceeded_grows (s : State) (h : HeadId) (n : Snapshot) :
    Grows s (s.sparkSucceeded h n) := by
  simp only [State.sparkSucceeded]
  (repeat' split) <;> repeat
    with_reducible
      first
      | exact .refl _
      | apply Grows.trans ?_ (State.setHead_grows _ _ _)
      | apply Grows.trans ?_ (State.endWire_grows _ _ _ _ _)
      | apply Grows.trans ?_ (State.enterMove_grows _ _ _)
theorem State.restartFailed_grows (s : State) (h : HeadId) :
    Grows s (s.restartFailed h) := by
  simp only [State.restartFailed]
  repeat
    with_reducible
      first
      | exact .refl _
      | apply Grows.trans ?_ (State.setHead_grows _ _ _)
      | apply Grows.trans ?_ (State.returnReservation_grows _ _)
      | apply Grows.trans ?_ (State.suspend_grows _ _ _)
theorem State.sparkOpen_grows (s : State) (h : HeadId) (n : Snapshot) :
    Grows s (s.sparkOpen h n) := by
  simp only [State.sparkOpen]
  (repeat' split) <;> repeat
    with_reducible
      first
      | exact .refl _
      | apply Grows.trans ?_ (State.setHead_grows _ _ _)
      | apply Grows.trans ?_ (State.endWire_grows _ _ _ _ _)
      | apply Grows.trans ?_ (State.restartFailed_grows _ _)
theorem State.raiseEnded_grows (s : State) (h : HeadId) :
    Grows s (s.raiseEnded h) := by
  simp only [State.raiseEnded]
  (repeat' split) <;> repeat
    with_reducible
      first
      | exact .refl _
      | apply Grows.trans ?_ (State.endWire_grows _ _ _ _ _)
theorem State.searchDone_grows (s : State) (h : HeadId) (b : Bond) (results : List Byte) :
    Grows s (s.searchDone h b results) := by
  simp only [State.searchDone]
  (repeat' split) <;> repeat
    with_reducible
      first
      | exact .refl _
      | apply Grows.trans ?_ (State.setHead_grows _ _ _)
      | apply Grows.trans ?_ (State.searchFailed_grows _ _ _ _)
theorem State.phaseDone_grows (s : State) (h : HeadId) (n : Snapshot) (p : Phase) (results : List Byte) :
    Grows s (s.phaseDone h n p results) := by
  simp only [State.phaseDone]
  (repeat' split) <;> repeat
    with_reducible
      first
      | exact .refl _
      | apply Grows.trans ?_ (State.enterSearch_grows _ _ _ _)
      | apply Grows.trans ?_ (State.enterSpark_grows _ _ _)
      | apply Grows.trans ?_ (State.raiseEnded_grows _ _)
      | apply Grows.trans ?_ (State.searchDone_grows _ _ _ _)
theorem State.issueHeld_grows (s : State) (h : HeadId) :
    Grows s (s.issueHeld h) := by
  simp only [State.issueHeld]
  (repeat' split) <;> repeat
    with_reducible
      first
      | exact .refl _
      | apply Grows.trans ?_ (State.setHead_grows _ _ _)
      | apply Grows.trans ?_ (State.handOver_grows _ _ _)
      | apply Grows.trans ?_ (State.haltHead_grows _ _)
theorem State.positionerEnded_grows (s : State) (h : HeadId) (c : Completion) :
    Grows s (s.positionerEnded h c) := by
  simp only [State.positionerEnded]
  (repeat' split) <;> repeat
    with_reducible
      first
      | exact .refl _
      | apply Grows.trans ?_ (State.setHead_grows _ _ _)
      | apply Grows.trans ?_ (State.driveFault_grows _ _)
      | apply Grows.trans ?_ (State.haltHead_grows _ _)
      | apply Grows.trans ?_ (State.phaseDone_grows _ _ _ _ _)
      | apply Grows.trans ?_ (State.issueHeld_grows _ _)
theorem State.startWire_grows (s : State) (h : HeadId) (u : UnitRef) :
    Grows s (s.startWire h u) := by
  simp only [State.startWire]
  (repeat' split) <;> repeat
    with_reducible
      first
      | exact .refl _
      | apply Grows.trans ?_ (State.setHead_grows _ _ _)
      | apply Grows.trans ?_ (State.enterMove_grows _ _ _)
      | apply Grows.trans ?_ (State.enterSpark_grows _ _ _)
theorem State.waitForRoom_grows (s : State) (h : HeadId) : Grows s (s.waitForRoom h) := State.setHead_grows _ _ _
theorem State.askRoom_grows (s : State) (h : HeadId) (u : UnitRef) :
    Grows s (s.askRoom h u) := by
  have hr := s.reserve_grows (bondRegion h)
  simp only [State.askRoom]
  (repeat' split) <;> (try rename_i e; rw [e] at hr) <;> repeat
    with_reducible
      first
      | exact .refl _
      | exact hr
      | exact State.waitForRoom_grows _ _
      | apply Grows.trans ?_ (State.waitForRoom_grows _ _)
      | apply Grows.trans ?_ (State.startWire_grows _ _ _)
theorem State.tryWire_grows (s : State) (h : HeadId) (u : UnitRef) :
    Grows s (s.tryWire h u) := by
  simp only [State.tryWire]
  split
  · exact State.suspend_grows _ _ _
  · exact State.askRoom_grows _ _ _
theorem State.resumeEffect_grows (s : State) (h : HeadId) (why : Reason) :
    Grows s (s.resumeEffect h why) := by
  simp only [State.resumeEffect]
  (repeat' split) <;> repeat
    with_reducible
      first
      | exact .refl _
      | apply Grows.trans ?_ (State.setHead_grows _ _ _)
      | apply Grows.trans ?_ (State.writeEvent_grows _ _ _ _)
      | apply Grows.trans ?_ (State.rearmCap_grows _ _)
      | apply Grows.trans ?_ (State.rearmSpool_grows _ _)
      | apply Grows.trans ?_ (State.wireBreak_grows _ _)
theorem State.resume_grows (s : State) (h : HeadId) (why : Reason) :
    Grows s (s.resume h why) := by
  simp only [State.resume]
  (repeat' split) <;> repeat
    with_reducible
      first
      | exact .refl _
      | apply Grows.trans ?_ (State.handNotice_grows _ _)
      | apply Grows.trans ?_ (State.setHead_grows _ _ _)
      | apply Grows.trans ?_ (State.writeEvent_grows _ _ _ _)
      | apply Grows.trans ?_ (State.removePrompt_grows _ _ _)
      | apply Grows.trans ?_ (State.testHeadGates_grows _ _)
      | apply Grows.trans ?_ (State.enterIdle_grows _ _)
      | apply Grows.trans ?_ (State.resumeEffect_grows _ _ _)
theorem State.joinStopped_grows (s : State) (i : StopItem) :
    Grows s (s.joinStopped i) := by
  simp only [State.joinStopped]
  (repeat' split) <;> repeat
    with_reducible
      first
      | exact .refl _
      | apply Grows.trans ?_ (State.setTrc_grows _ _)
      | apply Grows.trans ?_ (State.raisePrompt_grows _ _ _ _)
      | apply Grows.trans ?_ (State.testFeed_grows _)
theorem State.exhaustInput_grows (s : State) :
    Grows s s.exhaustInput := by
  simp only [State.exhaustInput]
  repeat
    with_reducible
      first
      | exact .refl _
      | apply Grows.trans ?_ (State.setCondition_grows _ _)
      | apply Grows.trans ?_ (State.setTrc_grows _ _)
      | apply Grows.trans ?_ (State.raisePrompt_grows _ _ _ _)
theorem State.scanEnd_grows (s : State) :
    Grows s s.scanEnd := by
  simp only [State.scanEnd]
  (repeat' split) <;> repeat
    with_reducible
      first
      | exact .refl _
      | apply Grows.trans ?_ (State.setTrc_grows _ _)
      | apply Grows.trans ?_ (State.writeEvent_grows _ _ _ _)
      | apply Grows.trans ?_ (State.removePrompt_grows _ _ _)
      | apply Grows.trans ?_ (State.testFeed_grows _)
      | apply Grows.trans ?_ (State.exhaustInput_grows _)
theorem State.issueScan_grows (s : State) (k : Nat) :
    Grows s (s.issueScan k) := by
  simp only [State.issueScan]
  repeat
    with_reducible
      first
      | exact .refl _
      | apply Grows.trans ?_ (State.setTrc_grows _ _)
      | apply Grows.trans ?_ (State.handOver_grows _ _ _)
theorem State.scanStopped_grows (s : State) :
    Grows s s.scanStopped := by
  simp only [State.scanStopped]
  repeat
    with_reducible
      first
      | exact .refl _
      | apply Grows.trans ?_ (State.setTrc_grows _ _)
theorem State.scanOn_grows (s : State) (k : Nat) :
    Grows s (s.scanOn k) := by
  simp only [State.scanOn]
  (repeat' split) <;> repeat
    with_reducible
      first
      | exact .refl _
      | apply Grows.trans ?_ (State.setTrc_grows _ _)
      | apply Grows.trans ?_ (State.scanEnd_grows _)
      | apply Grows.trans ?_ (State.issueScan_grows _ _)
      | apply Grows.trans ?_ (State.scanStopped_grows _)
theorem State.startScan_grows (s : State) :
    Grows s s.startScan := by
  simp only [State.startScan]
  (repeat' split) <;> repeat
    with_reducible
      first
      | exact .refl _
      | apply Grows.trans ?_ (State.setTrc_grows _ _)
      | apply Grows.trans ?_ (State.scanEnd_grows _)
      | apply Grows.trans ?_ (State.issueScan_grows _ _)
theorem State.issueHeldScan_grows (s : State) :
    Grows s s.issueHeldScan := by
  simp only [State.issueHeldScan]
  (repeat' split) <;> repeat
    with_reducible
      first
      | exact .refl _
      | apply Grows.trans ?_ (State.setTrc_grows _ _)
      | apply Grows.trans ?_ (State.issueScan_grows _ _)
      | apply Grows.trans ?_ (State.scanStopped_grows _)
theorem State.issueSetTemp_grows (s : State) (setpoint : Nat) :
    Grows s (s.issueSetTemp setpoint) := by
  simp only [State.issueSetTemp]
  repeat
    with_reducible
      first
      | exact .refl _
      | apply Grows.trans ?_ (State.setTrc_grows _ _)
      | apply Grows.trans ?_ (State.handOver_grows _ _ _)
theorem State.sendSetTemp_grows (s : State) :
    Grows s s.sendSetTemp := by
  simp only [State.sendSetTemp]
  (repeat' split) <;> repeat
    with_reducible
      first
      | exact .refl _
      | apply Grows.trans ?_ (State.setTrc_grows _ _)
      | apply Grows.trans ?_ (State.issueSetTemp_grows _ _)
theorem State.tempReport_grows (s : State) (t : Nat) :
    Grows s (s.tempReport t) := by
  simp only [State.tempReport]
  (repeat' split) <;> repeat
    with_reducible
      first
      | exact .refl _
      | apply Grows.trans ?_ (State.setCondition_grows _ _)
      | apply Grows.trans ?_ (State.setTrc_grows _ _)
      | apply Grows.trans ?_ (State.writeEvent_grows _ _ _ _)
      | apply Grows.trans ?_ (State.raisePrompt_grows _ _ _ _)
      | apply Grows.trans ?_ (State.removePrompt_grows _ _ _)
      | apply Grows.trans ?_ (State.testBothHeads_grows _)
theorem State.trackConfigTaken_grows (s : State) :
    Grows s s.trackConfigTaken := by
  simp only [State.trackConfigTaken]
  repeat
    with_reducible
      first
      | exact .refl _
      | apply Grows.trans ?_ (State.setTrc_grows _ _)
      | apply Grows.trans ?_ (State.removePrompt_grows _ _ _)
      | apply Grows.trans ?_ (State.testBothHeads_grows _)
      | apply Grows.trans ?_ (State.sendSetTemp_grows _)
theorem State.leaveHaltScan_grows (s : State) :
    Grows s s.leaveHaltScan := by
  simp only [State.leaveHaltScan]
  (repeat' split) <;> repeat
    with_reducible
      first
      | exact .refl _
      | apply Grows.trans ?_ (State.setTrc_grows _ _)
      | apply Grows.trans ?_ (State.startScan_grows _)
theorem State.tellTrack_grows (s : State) (old new : Mode) :
    Grows s (s.tellTrack old new) := by
  simp only [State.tellTrack]
  (repeat' split) <;> repeat
    with_reducible
      first
      | exact .refl _
      | apply Grows.trans ?_ (State.testFeed_grows _)
      | apply Grows.trans ?_ (State.sendSetTemp_grows _)
      | apply Grows.trans ?_ (State.leaveHaltScan_grows _)
theorem State.setLot_grows (s : State) (l : LotState) : Grows s (s.setCmc { s.cmc with lot := l }) := .of_eq rfl
theorem State.setMode_grows (s : State) (m : Mode) (c : Nat) :
    Grows s (s.setCmc { s.cmc with mode := m, cause := c }) := .of_eq rfl
theorem State.setHold_grows (s : State) (c : Option HoldCause) : Grows s (s.setCmc { s.cmc with hold := c }) := .of_eq rfl
theorem State.lotCloseTest_grows (s : State) :
    Grows s s.lotCloseTest := by
  simp only [State.lotCloseTest]
  (repeat' split) <;> repeat
    with_reducible
      first
      | exact .refl _
      | exact State.setLot_grows _ _
      | exact State.setMode_grows _ _ _
      | exact State.setHold_grows _ _
      | apply Grows.trans ?_ (State.handNotice_grows _ _)
      | apply Grows.trans ?_ (State.setTrc_grows _ _)
      | apply Grows.trans ?_ (State.writeEvent_grows _ _ _ _)
      | apply Grows.trans ?_ (State.testFeed_grows _)
theorem State.tellHead_grows (s : State) (h : HeadId) :
    Grows s (s.tellHead h) := by
  simp only [State.tellHead]
  repeat
    with_reducible
      first
      | exact .refl _
      | apply Grows.trans ?_ (State.testHeadGates_grows _ _)
      | apply Grows.trans ?_ (State.askIfIdle_grows _ _)
theorem State.changeMode_grows (s : State) (new : Mode) (cause : Nat) :
    Grows s (s.changeMode new cause) := by
  simp only [State.changeMode]
  (repeat' split) <;> repeat
    with_reducible
      first
      | exact .refl _
      | exact State.setLot_grows _ _
      | exact State.setMode_grows _ _ _
      | exact State.setHold_grows _ _
      | apply Grows.trans ?_ (State.handNotice_grows _ _)
      | apply Grows.trans ?_ (State.writeEvent_grows _ _ _ _)
      | apply Grows.trans ?_ (State.removePrompt_grows _ _ _)
      | apply Grows.trans ?_ (State.testPullGates_grows _)
      | apply Grows.trans ?_ (State.tellTrack_grows _ _ _)
      | apply Grows.trans ?_ (State.lotCloseTest_grows _)
      | apply Grows.trans ?_ (State.tellHead_grows _ _)
theorem State.setQualityHold_grows (s : State) (cause : HoldCause) :
    Grows s (s.setQualityHold cause) := by
  simp only [State.setQualityHold]
  (repeat' split) <;> repeat
    with_reducible
      first
      | exact .refl _
      | exact State.setLot_grows _ _
      | exact State.setMode_grows _ _ _
      | exact State.setHold_grows _ _
      | apply Grows.trans ?_ (State.handNotice_grows _ _)
      | apply Grows.trans ?_ (State.setCondition_grows _ _)
      | apply Grows.trans ?_ (State.writeEvent_grows _ _ _ _)
      | apply Grows.trans ?_ (State.raisePrompt_grows _ _ _ _)
      | apply Grows.trans ?_ (State.testBothHeads_grows _)
      | apply Grows.trans ?_ (State.changeMode_grows _ _ _)
theorem State.clearQualityHold_grows (s : State) (cause : Nat) :
    Grows s (s.clearQualityHold cause) := by
  simp only [State.clearQualityHold]
  (repeat' split) <;> repeat
    with_reducible
      first
      | exact .refl _
      | exact State.setLot_grows _ _
      | exact State.setMode_grows _ _ _
      | exact State.setHold_grows _ _
      | apply Grows.trans ?_ (State.handNotice_grows _ _)
      | apply Grows.trans ?_ (State.writeEvent_grows _ _ _ _)
      | apply Grows.trans ?_ (State.removePrompt_grows _ _ _)
      | apply Grows.trans ?_ (State.testBothHeads_grows _)
theorem State.pullsDone_grows (s : State) :
    Grows s s.pullsDone := by
  simp only [State.pullsDone]
  repeat
    with_reducible
      first
      | exact .refl _
      | apply Grows.trans ?_ (State.setTrc_grows _ _)
      | apply Grows.trans ?_ (State.setPsc_grows _ _)
theorem State.nextPull_grows (s : State) :
    Grows s s.nextPull := by
  simp only [State.nextPull]
  (repeat' split) <;> repeat
    with_reducible
      first
      | exact .refl _
      | apply Grows.trans ?_ (State.setPsc_grows _ _)
      | apply Grows.trans ?_ (State.testPullGates_grows _)
      | apply Grows.trans ?_ (State.pullsDone_grows _)
theorem State.handStrip_grows (s : State) (serial : Nat) :
    Grows s (s.handStrip serial) := by
  simp only [State.handStrip]
  repeat
    with_reducible
      first
      | exact .refl _
      | apply Grows.trans ?_ (State.setPsc_grows _ _)
      | apply Grows.trans ?_ (State.nextPull_grows _)
theorem State.tryPull_grows (s : State) (e : PullEntry) :
    Grows s (s.tryPull e) := by
  have hr := s.reserve_grows .pull
  simp only [State.tryPull]
  (repeat' split) <;> (try rename_i e; rw [e] at hr) <;> repeat
    with_reducible
      first
      | exact .refl _
      | exact hr
      | apply Grows.trans ?_ (State.setPsc_grows _ _)
      | apply Grows.trans ?_ (State.handOver_grows _ _ _)
theorem State.advancePull_grows (s : State) :
    Grows s s.advancePull := by
  simp only [State.advancePull]
  repeat
    with_reducible
      first
      | exact .refl _
      | apply Grows.trans ?_ (State.setPsc_grows _ _)
theorem State.stage_grows (s : State) (p : Staged) :
    Grows s (s.stage p) := by
  simp only [State.stage]
  (repeat' split) <;> repeat
    with_reducible
      first
      | exact .refl _
      | apply Grows.trans ?_ (State.setPsc_grows _ _)
      | apply Grows.trans ?_ (State.raisePrompt_grows _ _ _ _)
theorem State.pullMade_grows (s : State) (f : Flight) (results : List Byte) :
    Grows s (s.pullMade f results) := by
  simp only [State.pullMade]
  (repeat' split) <;> repeat
    with_reducible
      first
      | exact .refl _
      | apply Grows.trans ?_ (State.setPsc_grows _ _)
      | apply Grows.trans ?_ (State.pulledReport_grows _ _ _)
      | apply Grows.trans ?_ (State.setQualityHold_grows _ _)
      | apply Grows.trans ?_ (State.nextPull_grows _)
      | apply Grows.trans ?_ (State.advancePull_grows _)
      | apply Grows.trans ?_ (State.stage_grows _ _)
theorem State.pullFailed_grows (s : State) (f : Flight) :
    Grows s (s.pullFailed f) := by
  simp only [State.pullFailed]
  repeat
    with_reducible
      first
      | exact .refl _
      | apply Grows.trans ?_ (State.setPsc_grows _ _)
      | apply Grows.trans ?_ (State.commit_grows _ _ _)
      | apply Grows.trans ?_ (State.raisePrompt_grows _ _ _ _)
      | apply Grows.trans ?_ (State.pulledReport_grows _ _ _)
      | apply Grows.trans ?_ (State.advancePull_grows _)
theorem State.haltPull_grows (s : State) :
    Grows s s.haltPull := by
  simp only [State.haltPull]
  (repeat' split) <;> repeat
    with_reducible
      first
      | exact .refl _
      | apply Grows.trans ?_ (State.setPsc_grows _ _)
      | apply Grows.trans ?_ (State.testPullGates_grows _)
      | apply Grows.trans ?_ (State.returnReservation_grows _ _)
theorem State.pullEnded_grows (s : State) (c : Completion) :
    Grows s (s.pullEnded c) := by
  simp only [State.pullEnded]
  (repeat' split) <;> repeat
    with_reducible
      first
      | exact .refl _
      | apply Grows.trans ?_ (State.pullMade_grows _ _ _)
      | apply Grows.trans ?_ (State.pullFailed_grows _ _)
      | apply Grows.trans ?_ (State.haltPull_grows _)
theorem State.ackPull_grows (s : State) :
    Grows s s.ackPull := by
  simp only [State.ackPull]
  (repeat' split) <;> repeat
    with_reducible
      first
      | exact .refl _
      | apply Grows.trans ?_ (State.nextPull_grows _)
theorem State.unstage_grows (s : State) (serial : Nat) :
    Grows s (s.unstage serial) := by
  simp only [State.unstage]
  (repeat' split) <;> repeat
    with_reducible
      first
      | exact .refl _
      | apply Grows.trans ?_ (State.setPsc_grows _ _)
      | apply Grows.trans ?_ (State.removePrompt_grows _ _ _)
      | apply Grows.trans ?_ (State.testPullGates_grows _)
      | apply Grows.trans ?_ (State.lotCloseTest_grows _)
theorem State.classifyPull_grows (s : State) (x : Staged) (mode : Nat) (by' : Classifier) :
    Grows s (s.classifyPull x mode by') := by
  simp only [State.classifyPull]
  (repeat' split) <;> repeat
    with_reducible
      first
      | exact .refl _
      | apply Grows.trans ?_ (State.setPsc_grows _ _)
      | apply Grows.trans ?_ (State.commit_grows _ _ _)
      | apply Grows.trans ?_ (State.setQualityHold_grows _ _)
      | apply Grows.trans ?_ (State.unstage_grows _ _)
theorem State.inputPresence_grows (s : State) (present : Bool) :
    Grows s (s.inputPresence present) := by
  simp only [State.inputPresence]
  (repeat' split) <;> repeat
    with_reducible
      first
      | exact .refl _
      | apply Grows.trans ?_ (State.setTrc_grows _ _)
      | apply Grows.trans ?_ (State.writeEvent_grows _ _ _ _)
      | apply Grows.trans ?_ (State.testFeed_grows _)
      | apply Grows.trans ?_ (State.startScan_grows _)
theorem State.tryFeed_grows (s : State) (slot : Nat) :
    Grows s (s.tryFeed slot) := by
  have hr := s.reserve_grows .strip
  simp only [State.tryFeed]
  (repeat' split) <;> (try rename_i e; rw [e] at hr) <;> repeat
    with_reducible
      first
      | exact .refl _
      | exact hr
      | apply Grows.trans ?_ (State.setTrc_grows _ _)
      | apply Grows.trans ?_ (State.testFeed_grows _)
      | apply Grows.trans ?_ (State.handOver_grows _ _ _)
theorem State.pushOver_grows (s : State) :
    Grows s s.pushOver := by
  simp only [State.pushOver]
  repeat
    with_reducible
      first
      | exact .refl _
      | apply Grows.trans ?_ (State.testFeed_grows _)
      | apply Grows.trans ?_ (State.lotCloseTest_grows _)
theorem State.serialLimit_grows (s : State) :
    Grows s s.serialLimit := by
  simp only [State.serialLimit]
  (repeat' split) <;> repeat
    with_reducible
      first
      | exact .refl _
      | apply Grows.trans ?_ (State.changeMode_grows _ _ _)
theorem State.pushDone_grows (s : State) (mag slot : Nat) :
    Grows s (s.pushDone mag slot) := by
  simp only [State.pushDone]
  (repeat' split) <;> repeat
    with_reducible
      first
      | exact .refl _
      | apply Grows.trans ?_ (State.handNotice_grows _ _)
      | apply Grows.trans ?_ (State.createRecord_grows _ _ _ _)
      | apply Grows.trans ?_ (State.setTrc_grows _ _)
      | apply Grows.trans ?_ (State.exhaustInput_grows _)
      | apply Grows.trans ?_ (State.pushOver_grows _)
      | apply Grows.trans ?_ (State.serialLimit_grows _)
theorem State.pushLost_grows (s : State) (mag slot : Nat) (stopped : Bool) :
    Grows s (s.pushLost mag slot stopped) := by
  simp only [State.pushLost]
  (repeat' split) <;> repeat
    with_reducible
      first
      | exact .refl _
      | apply Grows.trans ?_ (State.setTrc_grows _ _)
      | apply Grows.trans ?_ (State.returnReservation_grows _ _)
      | apply Grows.trans ?_ (State.joinStopped_grows _ _)
      | apply Grows.trans ?_ (State.pushOver_grows _)
theorem State.pushEnded_grows (s : State) (c : Completion) :
    Grows s (s.pushEnded c) := by
  simp only [State.pushEnded]
  (repeat' split) <;> repeat
    with_reducible
      first
      | exact .refl _
      | apply Grows.trans ?_ (State.pushDone_grows _ _ _)
      | apply Grows.trans ?_ (State.pushLost_grows _ _ _ _)
theorem State.scanEnded_grows (s : State) (c : Completion) :
    Grows s (s.scanEnded c) := by
  simp only [State.scanEnded]
  (repeat' split) <;> repeat
    with_reducible
      first
      | exact .refl _
      | apply Grows.trans ?_ (State.setTrc_grows _ _)
      | apply Grows.trans ?_ (State.joinStopped_grows _ _)
      | apply Grows.trans ?_ (State.scanStopped_grows _)
      | apply Grows.trans ?_ (State.scanOn_grows _ _)
theorem State.inElevatorEnded_grows (s : State) (c : Completion) :
    Grows s (s.inElevatorEnded c) := by
  simp only [State.inElevatorEnded]
  (repeat' split) <;> repeat
    with_reducible
      first
      | exact .refl _
      | apply Grows.trans ?_ (State.setTrc_grows _ _)
      | apply Grows.trans ?_ (State.issueHeldScan_grows _)
      | apply Grows.trans ?_ (State.pushEnded_grows _ _)
      | apply Grows.trans ?_ (State.scanEnded_grows _ _)
theorem State.outputPromptTest_grows (s : State) :
    Grows s s.outputPromptTest := by
  simp only [State.outputPromptTest]
  (repeat' split) <;> repeat
    with_reducible
      first
      | exact .refl _
      | apply Grows.trans ?_ (State.setCondition_grows _ _)
      | apply Grows.trans ?_ (State.raisePrompt_grows _ _ _ _)
theorem State.outputPresence_grows (s : State) (present : Bool) :
    Grows s (s.outputPresence present) := by
  simp only [State.outputPresence]
  (repeat' split) <;> repeat
    with_reducible
      first
      | exact .refl _
      | apply Grows.trans ?_ (State.setTrc_grows _ _)
      | apply Grows.trans ?_ (State.writeEvent_grows _ _ _ _)
      | apply Grows.trans ?_ (State.removePrompt_grows _ _ _)
      | apply Grows.trans ?_ (State.outputPromptTest_grows _)
theorem State.useOutSlot_grows (s : State) (mag slot : Nat) (x : OutSlot) :
    Grows s (s.useOutSlot mag slot x) := by
  simp only [State.useOutSlot]
  (repeat' split) <;> repeat
    with_reducible
      first
      | exact .refl _
      | apply Grows.trans ?_ (State.setTrc_grows _ _)
      | apply Grows.trans ?_ (State.writeEvent_grows _ _ _ _)
theorem State.storeDone_grows (s : State) (mag slot : Nat) :
    Grows s (s.storeDone mag slot) := by
  simp only [State.storeDone]
  (repeat' split) <;> repeat
    with_reducible
      first
      | exact .refl _
      | apply Grows.trans ?_ (State.handNotice_grows _ _)
      | apply Grows.trans ?_ (State.setStu_grows _ _)
      | apply Grows.trans ?_ (State.setTrc_grows _ _)
      | apply Grows.trans ?_ (State.commit_grows _ _ _)
      | apply Grows.trans ?_ (State.lotCloseTest_grows _)
      | apply Grows.trans ?_ (State.useOutSlot_grows _ _ _ _)
theorem State.storeLost_grows (s : State) (mag slot : Nat) (stopped : Bool) :
    Grows s (s.storeLost mag slot stopped) := by
  simp only [State.storeLost]
  (repeat' split) <;> repeat
    with_reducible
      first
      | exact .refl _
      | apply Grows.trans ?_ (State.setTrc_grows _ _)
      | apply Grows.trans ?_ (State.joinStopped_grows _ _)
      | apply Grows.trans ?_ (State.outputPromptTest_grows _)
      | apply Grows.trans ?_ (State.useOutSlot_grows _ _ _ _)
theorem State.outElevatorEnded_grows (s : State) (c : Completion) :
    Grows s (s.outElevatorEnded c) := by
  simp only [State.outElevatorEnded]
  (repeat' split) <;> repeat
    with_reducible
      first
      | exact .refl _
      | apply Grows.trans ?_ (State.storeDone_grows _ _ _)
      | apply Grows.trans ?_ (State.storeLost_grows _ _ _ _)
theorem State.issueStep_grows (s : State) (step : SeqState) :
    Grows s (s.issueStep step) := by
  simp only [State.issueStep]
  repeat
    with_reducible
      first
      | exact .refl _
      | apply Grows.trans ?_ (State.setTrc_grows _ _)
      | apply Grows.trans ?_ (State.handOver_grows _ _ _)
theorem State.handAtVerify_grows (s : State) :
    Grows s s.handAtVerify := by
  simp only [State.handAtVerify]
  (repeat' split) <;> repeat
    with_reducible
      first
      | exact .refl _
      | apply Grows.trans ?_ (State.setTrc_grows _ _)
      | apply Grows.trans ?_ (State.handStrip_grows _ _)
theorem State.indexed_grows (s : State) :
    Grows s s.indexed := by
  simp only [State.indexed]
  repeat
    with_reducible
      first
      | exact .refl _
      | apply Grows.trans ?_ (State.setTrc_grows _ _)
      | apply Grows.trans ?_ (State.indexReport_grows _)
      | apply Grows.trans ?_ (State.pullsDone_grows _)
      | apply Grows.trans ?_ (State.outputPromptTest_grows _)
      | apply Grows.trans ?_ (State.testFeed_grows _)
theorem State.trackIdle_grows (s : State) :
    Grows s s.trackIdle := by
  simp only [State.trackIdle]
  repeat
    with_reducible
      first
      | exact .refl _
      | apply Grows.trans ?_ (State.setTrc_grows _ _)
      | apply Grows.trans ?_ (State.testBothHeads_grows _)
      | apply Grows.trans ?_ (State.testFeed_grows _)
      | apply Grows.trans ?_ (State.handAtVerify_grows _)
theorem State.stepDone_grows (s : State) (step : SeqState) :
    Grows s (s.stepDone step) := by
  simp only [State.stepDone]
  (repeat' split) <;> repeat
    with_reducible
      first
      | exact .refl _
      | apply Grows.trans ?_ (State.setTrc_grows _ _)
      | apply Grows.trans ?_ (State.issueStep_grows _ _)
      | apply Grows.trans ?_ (State.indexed_grows _)
      | apply Grows.trans ?_ (State.trackIdle_grows _)
theorem State.abandonSequence_grows (s : State) :
    Grows s s.abandonSequence := by
  simp only [State.abandonSequence]
  (repeat' split) <;> repeat
    with_reducible
      first
      | exact .refl _
      | apply Grows.trans ?_ (State.setTrc_grows _ _)
      | apply Grows.trans ?_ (State.indexed_grows _)
      | apply Grows.trans ?_ (State.trackIdle_grows _)
theorem State.indexerEnded_grows (s : State) (c : Completion) :
    Grows s (s.indexerEnded c) := by
  simp only [State.indexerEnded]
  (repeat' split) <;> repeat
    with_reducible
      first
      | exact .refl _
      | apply Grows.trans ?_ (State.setTrc_grows _ _)
      | apply Grows.trans ?_ (State.joinStopped_grows _ _)
      | apply Grows.trans ?_ (State.stepDone_grows _ _)
      | apply Grows.trans ?_ (State.abandonSequence_grows _)
theorem State.startSequence_grows (s : State) (step : SeqState) :
    Grows s (s.startSequence step) := by
  simp only [State.startSequence]
  repeat
    with_reducible
      first
      | exact .refl _
      | apply Grows.trans ?_ (State.testBothHeads_grows _)
      | apply Grows.trans ?_ (State.testFeed_grows _)
      | apply Grows.trans ?_ (State.issueStep_grows _ _)
theorem State.workHolderEnded_grows (s : State) (_c : Completion) :
    Grows s (s.workHolderEnded _c) := by
  simp only [State.workHolderEnded]
  (repeat' split) <;> repeat
    with_reducible
      first
      | exact .refl _
      | apply Grows.trans ?_ (State.setTrc_grows _ _)
      | apply Grows.trans ?_ (State.issueSetTemp_grows _ _)
theorem State.ackInput_grows (s : State) :
    Grows s s.ackInput := by
  simp only [State.ackInput]
  (repeat' split) <;> repeat
    with_reducible
      first
      | exact .refl _
      | apply Grows.trans ?_ (State.setTrc_grows _ _)
      | apply Grows.trans ?_ (State.startScan_grows _)
theorem State.ackSequence_grows (s : State) :
    Grows s s.ackSequence := by
  simp only [State.ackSequence]
  (repeat' split) <;> repeat
    with_reducible
      first
      | exact .refl _
      | apply Grows.trans ?_ (State.setTrc_grows _ _)
      | apply Grows.trans ?_ (State.issueStep_grows _ _)
      | apply Grows.trans ?_ (State.abandonSequence_grows _)
theorem State.ackTrack_grows (s : State) :
    Grows s s.ackTrack := by
  simp only [State.ackTrack]
  repeat
    with_reducible
      first
      | exact .refl _
      | apply Grows.trans ?_ (State.setTrc_grows _ _)
      | apply Grows.trans ?_ (State.testFeed_grows _)
      | apply Grows.trans ?_ (State.ackInput_grows _)
      | apply Grows.trans ?_ (State.ackSequence_grows _)
theorem State.deliver_grows (s : State) (d : Drive) (c : Completion) :
    Grows s (s.deliver d c) := by
  simp only [State.deliver]
  (repeat' split) <;> repeat
    with_reducible
      first
      | exact .refl _
      | apply Grows.trans ?_ (State.positionerEnded_grows _ _ _)
      | apply Grows.trans ?_ (State.pullEnded_grows _ _)
      | apply Grows.trans ?_ (State.inElevatorEnded_grows _ _)
      | apply Grows.trans ?_ (State.outElevatorEnded_grows _ _)
      | apply Grows.trans ?_ (State.indexerEnded_grows _ _)
      | apply Grows.trans ?_ (State.workHolderEnded_grows _ _)
theorem State.endOperation_grows (s : State) (d : Drive) (c : Completion) :
    Grows s (s.endOperation d c) := by
  simp only [State.endOperation]
  repeat
    with_reducible
      first
      | exact .refl _
      | apply Grows.trans ?_ (State.setDrive_grows _ _ _)
      | apply Grows.trans ?_ (State.deliver_grows _ _ _)
theorem State.recordFault_grows (s : State) (d : Drive) (kind : FaultKind) (code : Byte) :
    Grows s (s.recordFault d kind code) := by
  simp only [State.recordFault]
  repeat
    with_reducible
      first
      | exact .refl _
      | apply Grows.trans ?_ (State.setDrive_grows _ _ _)
theorem State.driveFaultEvent_grows (s : State) (d : Drive) (kind : FaultKind) (op code : Byte) :
    Grows s (s.driveFaultEvent d kind op code) := by
  simp only [State.driveFaultEvent]
  repeat
    with_reducible
      first
      | exact .refl _
      | apply Grows.trans ?_ (State.setCondition_grows _ _)
      | apply Grows.trans ?_ (State.writeEvent_grows _ _ _ _)
      | apply Grows.trans ?_ (State.driveFault_grows _ _)
theorem State.failOperation_grows (s : State) (d : Drive) (kind : FaultKind) (code : Byte) :
    Grows s (s.failOperation d kind code) := by
  simp only [State.failOperation]
  repeat
    with_reducible
      first
      | exact .refl _
      | apply Grows.trans ?_ (State.endOperation_grows _ _ _)
      | apply Grows.trans ?_ (State.recordFault_grows _ _ _ _)
      | apply Grows.trans ?_ (State.driveFaultEvent_grows _ _ _ _ _)
theorem State.noAnswer_grows (s : State) (d : Drive) :
    Grows s (s.noAnswer d) := by
  simp only [State.noAnswer]
  repeat
    with_reducible
      first
      | exact .refl _
      | apply Grows.trans ?_ (State.setCondition_grows _ _)
      | apply Grows.trans ?_ (State.endOperation_grows _ _ _)
      | apply Grows.trans ?_ (State.recordFault_grows _ _ _ _)
      | apply Grows.trans ?_ (State.driveFaultEvent_grows _ _ _ _ _)
theorem State.setLine_grows (s : State) (l : LineState) :
    Grows s (s.setLine l) := by
  simp only [State.setLine]
  repeat
    with_reducible
      first
      | exact .refl _
      | apply Grows.trans ?_ (State.setDlc_grows _ _)
theorem State.accepted_grows (s : State) (d : Drive) :
    Grows s (s.accepted d) := by
  simp only [State.accepted]
  repeat
    with_reducible
      first
      | exact .refl _
      | apply Grows.trans ?_ (State.setDrive_grows _ _ _)
      | apply Grows.trans ?_ (State.stage_grows _ _)
theorem State.answer_grows (s : State) (d : Drive) (discard : Bool) (c : LineChar) :
    Grows s (s.answer d discard c) := by
  simp only [State.answer]
  (repeat' split) <;> repeat
    with_reducible
      first
      | exact .refl _
      | apply Grows.trans ?_ (State.failOperation_grows _ _ _ _)
      | apply Grows.trans ?_ (State.noAnswer_grows _ _)
      | apply Grows.trans ?_ (State.setLine_grows _ _)
      | apply Grows.trans ?_ (State.accepted_grows _ _)
theorem State.sendCommand_grows (s : State) (d : Drive) (rest : List Drive) :
    Grows s (s.sendCommand d rest) := by
  simp only [State.sendCommand]
  (repeat' split) <;> repeat
    with_reducible
      first
      | exact .refl _
      | apply Grows.trans ?_ (State.setDlc_grows _ _)
      | apply Grows.trans ?_ (State.stage_grows _ _)
theorem State.closePoll_grows (s : State) (c : Byte) :
    Grows s (s.closePoll c) := by
  simp only [State.closePoll]
  repeat
    with_reducible
      first
      | exact .refl _
      | apply Grows.trans ?_ (State.setDlc_grows _ _)
theorem State.badStatus_grows (s : State) :
    Grows s s.badStatus := by
  simp only [State.badStatus]
  repeat
    with_reducible
      first
      | exact .refl _
      | apply Grows.trans ?_ (State.setCondition_grows _ _)
      | apply Grows.trans ?_ (State.closePoll_grows _ _)
theorem State.report_grows (s : State) (d : Drive) (results : List Byte) :
    Grows s (s.report d results) := by
  simp only [State.report]
  (repeat' split) <;> repeat
    with_reducible
      first
      | exact .refl _
      | apply Grows.trans ?_ (State.tempReport_grows _ _)
      | apply Grows.trans ?_ (State.inputPresence_grows _ _)
      | apply Grows.trans ?_ (State.outputPresence_grows _ _)
theorem State.goodStatusTaken_grows (s : State) (d : Drive) (kind op : Byte) (results : List Byte) :
    Grows s (s.goodStatusTaken d kind op results) := by
  simp only [State.goodStatusTaken]
  (repeat' split) <;> repeat
    with_reducible
      first
      | exact .refl _
      | apply Grows.trans ?_ (State.setCondition_grows _ _)
      | apply Grows.trans ?_ (State.writeEvent_grows _ _ _ _)
      | apply Grows.trans ?_ (State.stage_grows _ _)
      | apply Grows.trans ?_ (State.endOperation_grows _ _ _)
      | apply Grows.trans ?_ (State.failOperation_grows _ _ _ _)
      | apply Grows.trans ?_ (State.report_grows _ _ _)
theorem State.statusChar_grows (s : State) (d : Drive) (chars : List Byte) (c : LineChar) :
    Grows s (s.statusChar d chars c) := by
  simp only [State.statusChar]
  (repeat' split) <;> repeat
    with_reducible
      first
      | exact .refl _
      | apply Grows.trans ?_ (State.setLine_grows _ _)
      | apply Grows.trans ?_ (State.closePoll_grows _ _)
      | apply Grows.trans ?_ (State.badStatus_grows _)
      | apply Grows.trans ?_ (State.goodStatusTaken_grows _ _ _ _ _)
theorem State.timedOut_grows (s : State) (d : Drive) :
    Grows s (s.timedOut d) := by
  simp only [State.timedOut]
  repeat
    with_reducible
      first
      | exact .refl _
      | apply Grows.trans ?_ (State.setCondition_grows _ _)
      | apply Grows.trans ?_ (State.writeEvent_grows _ _ _ _)
      | apply Grows.trans ?_ (State.endOperation_grows _ _ _)
      | apply Grows.trans ?_ (State.recordFault_grows _ _ _ _)
theorem State.stopDrive_grows (s : State) (d : Drive) :
    Grows s (s.stopDrive d) := by
  simp only [State.stopDrive]
  (repeat' split) <;> repeat
    with_reducible
      first
      | exact .refl _
      | apply Grows.trans ?_ (State.stage_grows _ _)
      | apply Grows.trans ?_ (State.endOperation_grows _ _ _)
theorem State.stopDrives_grows (ds : List Drive) (s : State) : Grows s (ds.foldl State.stopDrive s) := by
  induction ds generalizing s with
  | nil => exact .refl s
  | cons d ds ih => exact (s.stopDrive_grows d).trans (ih _)
theorem State.haltDrives_grows (s : State) : Grows s s.haltDrives :=
  (s.setDlc_grows _).trans (State.stopDrives_grows _ _)
theorem State.enterHalt_grows (s : State) (cause : Nat) :
    Grows s (s.enterHalt cause) := by
  simp only [State.enterHalt]
  (repeat' split) <;> repeat
    with_reducible
      first
      | exact .refl _
      | exact State.setLot_grows _ _
      | exact State.setMode_grows _ _ _
      | exact State.setHold_grows _ _
      | apply Grows.trans ?_ (State.handNotice_grows _ _)
      | apply Grows.trans ?_ (State.setCondition_grows _ _)
      | apply Grows.trans ?_ (State.writeEvent_grows _ _ _ _)
      | apply Grows.trans ?_ (State.raisePrompt_grows _ _ _ _)
      | apply Grows.trans ?_ (State.testBothHeads_grows _)
      | apply Grows.trans ?_ (State.testPullGates_grows _)
      | apply Grows.trans ?_ (State.haltHead_grows _ _)
      | apply Grows.trans ?_ (State.haltPull_grows _)
      | apply Grows.trans ?_ (State.abandonSequence_grows _)
      | apply Grows.trans ?_ (State.haltDrives_grows _)

end Sys2Proof.Machine
end

