-- ==== Sys2Proof/Laws/Frame.lean ====
section
/-! SUPPORT. Which blocks a shared operation leaves as they are: one equation per operation and block. -/

namespace Sys2Proof.Machine

open Sys2Proof

@[simp] theorem State.handNotice_rs (s : State) (n : Notice) : (s.handNotice n).rs = s.rs := by
  simp only [State.handNotice]
  (repeat' split) <;> simp
@[simp] theorem State.handNotice_heads (s : State) (n : Notice) : (s.handNotice n).heads = s.heads := by
  simp only [State.handNotice]
  (repeat' split) <;> simp
@[simp] theorem State.handNotice_stu (s : State) (n : Notice) : (s.handNotice n).stu = s.stu := by
  simp only [State.handNotice]
  (repeat' split) <;> simp
@[simp] theorem State.handNotice_trc (s : State) (n : Notice) : (s.handNotice n).trc = s.trc := by
  simp only [State.handNotice]
  (repeat' split) <;> simp
@[simp] theorem State.handNotice_dlc (s : State) (n : Notice) : (s.handNotice n).dlc = s.dlc := by
  simp only [State.handNotice]
  (repeat' split) <;> simp
@[simp] theorem State.handNotice_psc (s : State) (n : Notice) : (s.handNotice n).psc = s.psc := by
  simp only [State.handNotice]
  (repeat' split) <;> simp
@[simp] theorem State.handNotice_rm (s : State) (n : Notice) : (s.handNotice n).rm = s.rm := by
  simp only [State.handNotice]
  (repeat' split) <;> simp
@[simp] theorem State.handNotice_pnc (s : State) (n : Notice) : (s.handNotice n).pnc = s.pnc := by
  simp only [State.handNotice]
  (repeat' split) <;> simp
@[simp] theorem State.handNotice_pending (s : State) (n : Notice) : (s.handNotice n).pending = s.pending := by
  simp only [State.handNotice]
  (repeat' split) <;> simp
@[simp] theorem State.setCondition_rs (s : State) (c : Condition) : (s.setCondition c).rs = s.rs := by
  simp only [State.setCondition]
  (repeat' split) <;> simp
@[simp] theorem State.setCondition_heads (s : State) (c : Condition) : (s.setCondition c).heads = s.heads := by
  simp only [State.setCondition]
  (repeat' split) <;> simp
@[simp] theorem State.setCondition_stu (s : State) (c : Condition) : (s.setCondition c).stu = s.stu := by
  simp only [State.setCondition]
  (repeat' split) <;> simp
@[simp] theorem State.setCondition_trc (s : State) (c : Condition) : (s.setCondition c).trc = s.trc := by
  simp only [State.setCondition]
  (repeat' split) <;> simp
@[simp] theorem State.setCondition_dlc (s : State) (c : Condition) : (s.setCondition c).dlc = s.dlc := by
  simp only [State.setCondition]
  (repeat' split) <;> simp
@[simp] theorem State.setCondition_psc (s : State) (c : Condition) : (s.setCondition c).psc = s.psc := by
  simp only [State.setCondition]
  (repeat' split) <;> simp
@[simp] theorem State.setCondition_rm (s : State) (c : Condition) : (s.setCondition c).rm = s.rm := by
  simp only [State.setCondition]
  (repeat' split) <;> simp
@[simp] theorem State.setCondition_pnc (s : State) (c : Condition) : (s.setCondition c).pnc = s.pnc := by
  simp only [State.setCondition]
  (repeat' split) <;> simp
@[simp] theorem State.setCondition_pending (s : State) (c : Condition) : (s.setCondition c).pending = s.pending := by
  simp only [State.setCondition]
  (repeat' split) <;> simp
@[simp] theorem State.watermarkRise_rs (s : State) (i : RegionId) : (s.watermarkRise i).rs = s.rs := by
  simp only [State.watermarkRise]
  (repeat' split) <;> simp
@[simp] theorem State.watermarkRise_heads (s : State) (i : RegionId) : (s.watermarkRise i).heads = s.heads := by
  simp only [State.watermarkRise]
  (repeat' split) <;> simp
@[simp] theorem State.watermarkRise_stu (s : State) (i : RegionId) : (s.watermarkRise i).stu = s.stu := by
  simp only [State.watermarkRise]
  (repeat' split) <;> simp
@[simp] theorem State.watermarkRise_trc (s : State) (i : RegionId) : (s.watermarkRise i).trc = s.trc := by
  simp only [State.watermarkRise]
  (repeat' split) <;> simp
@[simp] theorem State.watermarkRise_dlc (s : State) (i : RegionId) : (s.watermarkRise i).dlc = s.dlc := by
  simp only [State.watermarkRise]
  (repeat' split) <;> simp
@[simp] theorem State.watermarkRise_psc (s : State) (i : RegionId) : (s.watermarkRise i).psc = s.psc := by
  simp only [State.watermarkRise]
  (repeat' split) <;> simp
@[simp] theorem State.watermarkRise_pnc (s : State) (i : RegionId) : (s.watermarkRise i).pnc = s.pnc := by
  simp only [State.watermarkRise]
  (repeat' split) <;> simp
@[simp] theorem State.watermarkRise_pending (s : State) (i : RegionId) : (s.watermarkRise i).pending = s.pending := by
  simp only [State.watermarkRise]
  (repeat' split) <;> simp
@[simp] theorem State.commit_rs (s : State) (i : RegionId) (mk : Nat → Record) : (s.commit i mk).rs = s.rs := by
  simp only [State.commit]
  simp
@[simp] theorem State.commit_heads (s : State) (i : RegionId) (mk : Nat → Record) : (s.commit i mk).heads = s.heads := by
  simp only [State.commit]
  simp
@[simp] theorem State.commit_stu (s : State) (i : RegionId) (mk : Nat → Record) : (s.commit i mk).stu = s.stu := by
  simp only [State.commit]
  simp
@[simp] theorem State.commit_trc (s : State) (i : RegionId) (mk : Nat → Record) : (s.commit i mk).trc = s.trc := by
  simp only [State.commit]
  simp
@[simp] theorem State.commit_dlc (s : State) (i : RegionId) (mk : Nat → Record) : (s.commit i mk).dlc = s.dlc := by
  simp only [State.commit]
  simp
@[simp] theorem State.commit_psc (s : State) (i : RegionId) (mk : Nat → Record) : (s.commit i mk).psc = s.psc := by
  simp only [State.commit]
  simp
@[simp] theorem State.commit_pnc (s : State) (i : RegionId) (mk : Nat → Record) : (s.commit i mk).pnc = s.pnc := by
  simp only [State.commit]
  simp
@[simp] theorem State.commit_pending (s : State) (i : RegionId) (mk : Nat → Record) : (s.commit i mk).pending = s.pending := by
  simp only [State.commit]
  simp
@[simp] theorem State.writeEvent_rs (s : State) (code : EventCode) (source arg : Nat) : (s.writeEvent code source arg).rs = s.rs := by
  simp only [State.writeEvent]
  (repeat' split) <;> simp
@[simp] theorem State.writeEvent_heads (s : State) (code : EventCode) (source arg : Nat) : (s.writeEvent code source arg).heads = s.heads := by
  simp only [State.writeEvent]
  (repeat' split) <;> simp
@[simp] theorem State.writeEvent_stu (s : State) (code : EventCode) (source arg : Nat) : (s.writeEvent code source arg).stu = s.stu := by
  simp only [State.writeEvent]
  (repeat' split) <;> simp
@[simp] theorem State.writeEvent_trc (s : State) (code : EventCode) (source arg : Nat) : (s.writeEvent code source arg).trc = s.trc := by
  simp only [State.writeEvent]
  (repeat' split) <;> simp
@[simp] theorem State.writeEvent_dlc (s : State) (code : EventCode) (source arg : Nat) : (s.writeEvent code source arg).dlc = s.dlc := by
  simp only [State.writeEvent]
  (repeat' split) <;> simp
@[simp] theorem State.writeEvent_psc (s : State) (code : EventCode) (source arg : Nat) : (s.writeEvent code source arg).psc = s.psc := by
  simp only [State.writeEvent]
  (repeat' split) <;> simp
@[simp] theorem State.writeEvent_pnc (s : State) (code : EventCode) (source arg : Nat) : (s.writeEvent code source arg).pnc = s.pnc := by
  simp only [State.writeEvent]
  (repeat' split) <;> simp
@[simp] theorem State.writeEvent_pending (s : State) (code : EventCode) (source arg : Nat) : (s.writeEvent code source arg).pending = s.pending := by
  simp only [State.writeEvent]
  (repeat' split) <;> simp
@[simp] theorem State.chirp_cmc (s : State) : s.chirp.cmc = s.cmc := by
  simp only [State.chirp]
  simp
@[simp] theorem State.chirp_rs (s : State) : s.chirp.rs = s.rs := by
  simp only [State.chirp]
  simp
@[simp] theorem State.chirp_heads (s : State) : s.chirp.heads = s.heads := by
  simp only [State.chirp]
  simp
@[simp] theorem State.chirp_stu (s : State) : s.chirp.stu = s.stu := by
  simp only [State.chirp]
  simp
@[simp] theorem State.chirp_trc (s : State) : s.chirp.trc = s.trc := by
  simp only [State.chirp]
  simp
@[simp] theorem State.chirp_dlc (s : State) : s.chirp.dlc = s.dlc := by
  simp only [State.chirp]
  simp
@[simp] theorem State.chirp_psc (s : State) : s.chirp.psc = s.psc := by
  simp only [State.chirp]
  simp
@[simp] theorem State.chirp_rm (s : State) : s.chirp.rm = s.rm := by
  simp only [State.chirp]
  simp
@[simp] theorem State.chirp_link (s : State) : s.chirp.link = s.link := by
  simp only [State.chirp]
  simp
@[simp] theorem State.chirp_pending (s : State) : s.chirp.pending = s.pending := by
  simp only [State.chirp]
  simp
@[simp] theorem State.raiseNote_rs (s : State) (kind : PromptKind) (source : Nat) (severity : Severity) (arg : Nat) (text : List Byte) : (s.raiseNote kind source severity arg text).rs = s.rs := by
  simp only [State.raiseNote]
  (repeat' split) <;> simp
@[simp] theorem State.raiseNote_heads (s : State) (kind : PromptKind) (source : Nat) (severity : Severity) (arg : Nat) (text : List Byte) : (s.raiseNote kind source severity arg text).heads = s.heads := by
  simp only [State.raiseNote]
  (repeat' split) <;> simp
@[simp] theorem State.raiseNote_stu (s : State) (kind : PromptKind) (source : Nat) (severity : Severity) (arg : Nat) (text : List Byte) : (s.raiseNote kind source severity arg text).stu = s.stu := by
  simp only [State.raiseNote]
  (repeat' split) <;> simp
@[simp] theorem State.raiseNote_trc (s : State) (kind : PromptKind) (source : Nat) (severity : Severity) (arg : Nat) (text : List Byte) : (s.raiseNote kind source severity arg text).trc = s.trc := by
  simp only [State.raiseNote]
  (repeat' split) <;> simp
@[simp] theorem State.raiseNote_dlc (s : State) (kind : PromptKind) (source : Nat) (severity : Severity) (arg : Nat) (text : List Byte) : (s.raiseNote kind source severity arg text).dlc = s.dlc := by
  simp only [State.raiseNote]
  (repeat' split) <;> simp
@[simp] theorem State.raiseNote_psc (s : State) (kind : PromptKind) (source : Nat) (severity : Severity) (arg : Nat) (text : List Byte) : (s.raiseNote kind source severity arg text).psc = s.psc := by
  simp only [State.raiseNote]
  (repeat' split) <;> simp
@[simp] theorem State.raiseNote_rm (s : State) (kind : PromptKind) (source : Nat) (severity : Severity) (arg : Nat) (text : List Byte) : (s.raiseNote kind source severity arg text).rm = s.rm := by
  simp only [State.raiseNote]
  (repeat' split) <;> simp
@[simp] theorem State.raiseNote_pending (s : State) (kind : PromptKind) (source : Nat) (severity : Severity) (arg : Nat) (text : List Byte) : (s.raiseNote kind source severity arg text).pending = s.pending := by
  simp only [State.raiseNote]
  (repeat' split) <;> simp
@[simp] theorem State.raisePrompt_rs (s : State) (kind : PromptKind) (source arg : Nat) : (s.raisePrompt kind source arg).rs = s.rs := by
  simp only [State.raisePrompt]
  simp
@[simp] theorem State.raisePrompt_heads (s : State) (kind : PromptKind) (source arg : Nat) : (s.raisePrompt kind source arg).heads = s.heads := by
  simp only [State.raisePrompt]
  simp
@[simp] theorem State.raisePrompt_stu (s : State) (kind : PromptKind) (source arg : Nat) : (s.raisePrompt kind source arg).stu = s.stu := by
  simp only [State.raisePrompt]
  simp
@[simp] theorem State.raisePrompt_trc (s : State) (kind : PromptKind) (source arg : Nat) : (s.raisePrompt kind source arg).trc = s.trc := by
  simp only [State.raisePrompt]
  simp
@[simp] theorem State.raisePrompt_dlc (s : State) (kind : PromptKind) (source arg : Nat) : (s.raisePrompt kind source arg).dlc = s.dlc := by
  simp only [State.raisePrompt]
  simp
@[simp] theorem State.raisePrompt_psc (s : State) (kind : PromptKind) (source arg : Nat) : (s.raisePrompt kind source arg).psc = s.psc := by
  simp only [State.raisePrompt]
  simp
@[simp] theorem State.raisePrompt_rm (s : State) (kind : PromptKind) (source arg : Nat) : (s.raisePrompt kind source arg).rm = s.rm := by
  simp only [State.raisePrompt]
  simp
@[simp] theorem State.raisePrompt_pending (s : State) (kind : PromptKind) (source arg : Nat) : (s.raisePrompt kind source arg).pending = s.pending := by
  simp only [State.raisePrompt]
  simp
@[simp] theorem State.removePrompt_rs (s : State) (kind : PromptKind) (source : Nat) : (s.removePrompt kind source).rs = s.rs := by
  simp only [State.removePrompt]
  (repeat' split) <;> simp
@[simp] theorem State.removePrompt_heads (s : State) (kind : PromptKind) (source : Nat) : (s.removePrompt kind source).heads = s.heads := by
  simp only [State.removePrompt]
  (repeat' split) <;> simp
@[simp] theorem State.removePrompt_stu (s : State) (kind : PromptKind) (source : Nat) : (s.removePrompt kind source).stu = s.stu := by
  simp only [State.removePrompt]
  (repeat' split) <;> simp
@[simp] theorem State.removePrompt_trc (s : State) (kind : PromptKind) (source : Nat) : (s.removePrompt kind source).trc = s.trc := by
  simp only [State.removePrompt]
  (repeat' split) <;> simp
@[simp] theorem State.removePrompt_dlc (s : State) (kind : PromptKind) (source : Nat) : (s.removePrompt kind source).dlc = s.dlc := by
  simp only [State.removePrompt]
  (repeat' split) <;> simp
@[simp] theorem State.removePrompt_psc (s : State) (kind : PromptKind) (source : Nat) : (s.removePrompt kind source).psc = s.psc := by
  simp only [State.removePrompt]
  (repeat' split) <;> simp
@[simp] theorem State.removePrompt_rm (s : State) (kind : PromptKind) (source : Nat) : (s.removePrompt kind source).rm = s.rm := by
  simp only [State.removePrompt]
  (repeat' split) <;> simp
@[simp] theorem State.removePrompt_pending (s : State) (kind : PromptKind) (source : Nat) : (s.removePrompt kind source).pending = s.pending := by
  simp only [State.removePrompt]
  (repeat' split) <;> simp
@[simp] theorem State.testHeadGates_cmc (s : State) (h : HeadId) : (s.testHeadGates h).cmc = s.cmc := by
  simp only [State.testHeadGates]
  (repeat' split) <;> simp
@[simp] theorem State.testHeadGates_rs (s : State) (h : HeadId) : (s.testHeadGates h).rs = s.rs := by
  simp only [State.testHeadGates]
  (repeat' split) <;> simp
@[simp] theorem State.testHeadGates_stu (s : State) (h : HeadId) : (s.testHeadGates h).stu = s.stu := by
  simp only [State.testHeadGates]
  (repeat' split) <;> simp
@[simp] theorem State.testHeadGates_trc (s : State) (h : HeadId) : (s.testHeadGates h).trc = s.trc := by
  simp only [State.testHeadGates]
  (repeat' split) <;> simp
@[simp] theorem State.testHeadGates_dlc (s : State) (h : HeadId) : (s.testHeadGates h).dlc = s.dlc := by
  simp only [State.testHeadGates]
  (repeat' split) <;> simp
@[simp] theorem State.testHeadGates_psc (s : State) (h : HeadId) : (s.testHeadGates h).psc = s.psc := by
  simp only [State.testHeadGates]
  (repeat' split) <;> simp
@[simp] theorem State.testHeadGates_rm (s : State) (h : HeadId) : (s.testHeadGates h).rm = s.rm := by
  simp only [State.testHeadGates]
  (repeat' split) <;> simp
@[simp] theorem State.testHeadGates_pnc (s : State) (h : HeadId) : (s.testHeadGates h).pnc = s.pnc := by
  simp only [State.testHeadGates]
  (repeat' split) <;> simp
@[simp] theorem State.testHeadGates_link (s : State) (h : HeadId) : (s.testHeadGates h).link = s.link := by
  simp only [State.testHeadGates]
  (repeat' split) <;> simp
@[simp] theorem State.testHeadGates_pending (s : State) (h : HeadId) : (s.testHeadGates h).pending = s.pending := by
  simp only [State.testHeadGates]
  (repeat' split) <;> simp
@[simp] theorem State.testBothHeads_cmc (s : State) : s.testBothHeads.cmc = s.cmc := by
  simp only [State.testBothHeads]
  simp
@[simp] theorem State.testBothHeads_rs (s : State) : s.testBothHeads.rs = s.rs := by
  simp only [State.testBothHeads]
  simp
@[simp] theorem State.testBothHeads_stu (s : State) : s.testBothHeads.stu = s.stu := by
  simp only [State.testBothHeads]
  simp
@[simp] theorem State.testBothHeads_trc (s : State) : s.testBothHeads.trc = s.trc := by
  simp only [State.testBothHeads]
  simp
@[simp] theorem State.testBothHeads_dlc (s : State) : s.testBothHeads.dlc = s.dlc := by
  simp only [State.testBothHeads]
  simp
@[simp] theorem State.testBothHeads_psc (s : State) : s.testBothHeads.psc = s.psc := by
  simp only [State.testBothHeads]
  simp
@[simp] theorem State.testBothHeads_rm (s : State) : s.testBothHeads.rm = s.rm := by
  simp only [State.testBothHeads]
  simp
@[simp] theorem State.testBothHeads_pnc (s : State) : s.testBothHeads.pnc = s.pnc := by
  simp only [State.testBothHeads]
  simp
@[simp] theorem State.testBothHeads_link (s : State) : s.testBothHeads.link = s.link := by
  simp only [State.testBothHeads]
  simp
@[simp] theorem State.testBothHeads_pending (s : State) : s.testBothHeads.pending = s.pending := by
  simp only [State.testBothHeads]
  simp
@[simp] theorem State.testFeed_cmc (s : State) : s.testFeed.cmc = s.cmc := by
  simp only [State.testFeed]
  (repeat' split) <;> simp
@[simp] theorem State.testFeed_rs (s : State) : s.testFeed.rs = s.rs := by
  simp only [State.testFeed]
  (repeat' split) <;> simp
@[simp] theorem State.testFeed_heads (s : State) : s.testFeed.heads = s.heads := by
  simp only [State.testFeed]
  (repeat' split) <;> simp
@[simp] theorem State.testFeed_stu (s : State) : s.testFeed.stu = s.stu := by
  simp only [State.testFeed]
  (repeat' split) <;> simp
@[simp] theorem State.testFeed_dlc (s : State) : s.testFeed.dlc = s.dlc := by
  simp only [State.testFeed]
  (repeat' split) <;> simp
@[simp] theorem State.testFeed_psc (s : State) : s.testFeed.psc = s.psc := by
  simp only [State.testFeed]
  (repeat' split) <;> simp
@[simp] theorem State.testFeed_rm (s : State) : s.testFeed.rm = s.rm := by
  simp only [State.testFeed]
  (repeat' split) <;> simp
@[simp] theorem State.testFeed_pnc (s : State) : s.testFeed.pnc = s.pnc := by
  simp only [State.testFeed]
  (repeat' split) <;> simp
@[simp] theorem State.testFeed_link (s : State) : s.testFeed.link = s.link := by
  simp only [State.testFeed]
  (repeat' split) <;> simp
@[simp] theorem State.testFeed_pending (s : State) : s.testFeed.pending = s.pending := by
  simp only [State.testFeed]
  (repeat' split) <;> simp
@[simp] theorem State.testPullGates_rs (s : State) : s.testPullGates.rs = s.rs := by
  simp only [State.testPullGates]
  (repeat' split) <;> simp
@[simp] theorem State.testPullGates_heads (s : State) : s.testPullGates.heads = s.heads := by
  simp only [State.testPullGates]
  (repeat' split) <;> simp
@[simp] theorem State.testPullGates_stu (s : State) : s.testPullGates.stu = s.stu := by
  simp only [State.testPullGates]
  (repeat' split) <;> simp
@[simp] theorem State.testPullGates_trc (s : State) : s.testPullGates.trc = s.trc := by
  simp only [State.testPullGates]
  (repeat' split) <;> simp
@[simp] theorem State.testPullGates_dlc (s : State) : s.testPullGates.dlc = s.dlc := by
  simp only [State.testPullGates]
  (repeat' split) <;> simp
@[simp] theorem State.testPullGates_rm (s : State) : s.testPullGates.rm = s.rm := by
  simp only [State.testPullGates]
  (repeat' split) <;> simp
@[simp] theorem State.testPullGates_pnc (s : State) : s.testPullGates.pnc = s.pnc := by
  simp only [State.testPullGates]
  (repeat' split) <;> simp
@[simp] theorem State.testPullGates_pending (s : State) : s.testPullGates.pending = s.pending := by
  simp only [State.testPullGates]
  (repeat' split) <;> simp
@[simp] theorem State.roomNotice_rs (s : State) (i : RegionId) : (s.roomNotice i).rs = s.rs := by
  simp only [State.roomNotice]
  (repeat' split) <;> simp
@[simp] theorem State.roomNotice_stu (s : State) (i : RegionId) : (s.roomNotice i).stu = s.stu := by
  simp only [State.roomNotice]
  (repeat' split) <;> simp
@[simp] theorem State.roomNotice_dlc (s : State) (i : RegionId) : (s.roomNotice i).dlc = s.dlc := by
  simp only [State.roomNotice]
  (repeat' split) <;> simp
@[simp] theorem State.roomNotice_rm (s : State) (i : RegionId) : (s.roomNotice i).rm = s.rm := by
  simp only [State.roomNotice]
  (repeat' split) <;> simp
@[simp] theorem State.roomNotice_pnc (s : State) (i : RegionId) : (s.roomNotice i).pnc = s.pnc := by
  simp only [State.roomNotice]
  (repeat' split) <;> simp
@[simp] theorem State.roomNotice_pending (s : State) (i : RegionId) : (s.roomNotice i).pending = s.pending := by
  simp only [State.roomNotice]
  (repeat' split) <;> simp
@[simp] theorem State.roomFell_rs (s : State) (i : RegionId) : (s.roomFell i).rs = s.rs := by
  simp only [State.roomFell]
  (repeat' split) <;> simp
@[simp] theorem State.roomFell_stu (s : State) (i : RegionId) : (s.roomFell i).stu = s.stu := by
  simp only [State.roomFell]
  (repeat' split) <;> simp
@[simp] theorem State.roomFell_dlc (s : State) (i : RegionId) : (s.roomFell i).dlc = s.dlc := by
  simp only [State.roomFell]
  (repeat' split) <;> simp
@[simp] theorem State.roomFell_pnc (s : State) (i : RegionId) : (s.roomFell i).pnc = s.pnc := by
  simp only [State.roomFell]
  (repeat' split) <;> simp
@[simp] theorem State.roomFell_pending (s : State) (i : RegionId) : (s.roomFell i).pending = s.pending := by
  simp only [State.roomFell]
  (repeat' split) <;> simp
@[simp] theorem State.returnReservation_rs (s : State) (i : RegionId) : (s.returnReservation i).rs = s.rs := by
  simp only [State.returnReservation]
  simp
@[simp] theorem State.returnReservation_stu (s : State) (i : RegionId) : (s.returnReservation i).stu = s.stu := by
  simp only [State.returnReservation]
  simp
@[simp] theorem State.returnReservation_dlc (s : State) (i : RegionId) : (s.returnReservation i).dlc = s.dlc := by
  simp only [State.returnReservation]
  simp
@[simp] theorem State.returnReservation_pnc (s : State) (i : RegionId) : (s.returnReservation i).pnc = s.pnc := by
  simp only [State.returnReservation]
  simp
@[simp] theorem State.returnReservation_pending (s : State) (i : RegionId) : (s.returnReservation i).pending = s.pending := by
  simp only [State.returnReservation]
  simp
@[simp] theorem State.handOver_cmc (s : State) (d : Drive) (op : DriveOp) : (s.handOver d op).cmc = s.cmc := by
  simp only [State.handOver]
  simp
@[simp] theorem State.handOver_rs (s : State) (d : Drive) (op : DriveOp) : (s.handOver d op).rs = s.rs := by
  simp only [State.handOver]
  simp
@[simp] theorem State.handOver_heads (s : State) (d : Drive) (op : DriveOp) : (s.handOver d op).heads = s.heads := by
  simp only [State.handOver]
  simp
@[simp] theorem State.handOver_stu (s : State) (d : Drive) (op : DriveOp) : (s.handOver d op).stu = s.stu := by
  simp only [State.handOver]
  simp
@[simp] theorem State.handOver_trc (s : State) (d : Drive) (op : DriveOp) : (s.handOver d op).trc = s.trc := by
  simp only [State.handOver]
  simp
@[simp] theorem State.handOver_psc (s : State) (d : Drive) (op : DriveOp) : (s.handOver d op).psc = s.psc := by
  simp only [State.handOver]
  simp
@[simp] theorem State.handOver_rm (s : State) (d : Drive) (op : DriveOp) : (s.handOver d op).rm = s.rm := by
  simp only [State.handOver]
  simp
@[simp] theorem State.handOver_pnc (s : State) (d : Drive) (op : DriveOp) : (s.handOver d op).pnc = s.pnc := by
  simp only [State.handOver]
  simp
@[simp] theorem State.handOver_link (s : State) (d : Drive) (op : DriveOp) : (s.handOver d op).link = s.link := by
  simp only [State.handOver]
  simp
@[simp] theorem State.handOver_pending (s : State) (d : Drive) (op : DriveOp) : (s.handOver d op).pending = s.pending := by
  simp only [State.handOver]
  simp
@[simp] theorem State.updateStrip_cmc (s : State) (serial : Nat) (f : StripRecord → StripRecord) : (s.updateStrip serial f).cmc = s.cmc := by
  simp only [State.updateStrip]
  simp
@[simp] theorem State.updateStrip_rs (s : State) (serial : Nat) (f : StripRecord → StripRecord) : (s.updateStrip serial f).rs = s.rs := by
  simp only [State.updateStrip]
  simp
@[simp] theorem State.updateStrip_heads (s : State) (serial : Nat) (f : StripRecord → StripRecord) : (s.updateStrip serial f).heads = s.heads := by
  simp only [State.updateStrip]
  simp
@[simp] theorem State.updateStrip_trc (s : State) (serial : Nat) (f : StripRecord → StripRecord) : (s.updateStrip serial f).trc = s.trc := by
  simp only [State.updateStrip]
  simp
@[simp] theorem State.updateStrip_dlc (s : State) (serial : Nat) (f : StripRecord → StripRecord) : (s.updateStrip serial f).dlc = s.dlc := by
  simp only [State.updateStrip]
  simp
@[simp] theorem State.updateStrip_psc (s : State) (serial : Nat) (f : StripRecord → StripRecord) : (s.updateStrip serial f).psc = s.psc := by
  simp only [State.updateStrip]
  simp
@[simp] theorem State.updateStrip_rm (s : State) (serial : Nat) (f : StripRecord → StripRecord) : (s.updateStrip serial f).rm = s.rm := by
  simp only [State.updateStrip]
  simp
@[simp] theorem State.updateStrip_pnc (s : State) (serial : Nat) (f : StripRecord → StripRecord) : (s.updateStrip serial f).pnc = s.pnc := by
  simp only [State.updateStrip]
  simp
@[simp] theorem State.updateStrip_link (s : State) (serial : Nat) (f : StripRecord → StripRecord) : (s.updateStrip serial f).link = s.link := by
  simp only [State.updateStrip]
  simp
@[simp] theorem State.updateStrip_pending (s : State) (serial : Nat) (f : StripRecord → StripRecord) : (s.updateStrip serial f).pending = s.pending := by
  simp only [State.updateStrip]
  simp
@[simp] theorem State.moveUnit_cmc (s : State) (u : UnitRef) (source target : UnitState) : (s.moveUnit u source target).cmc = s.cmc := by
  simp only [State.moveUnit]
  simp
@[simp] theorem State.moveUnit_rs (s : State) (u : UnitRef) (source target : UnitState) : (s.moveUnit u source target).rs = s.rs := by
  simp only [State.moveUnit]
  simp
@[simp] theorem State.moveUnit_heads (s : State) (u : UnitRef) (source target : UnitState) : (s.moveUnit u source target).heads = s.heads := by
  simp only [State.moveUnit]
  simp
@[simp] theorem State.moveUnit_trc (s : State) (u : UnitRef) (source target : UnitState) : (s.moveUnit u source target).trc = s.trc := by
  simp only [State.moveUnit]
  simp
@[simp] theorem State.moveUnit_dlc (s : State) (u : UnitRef) (source target : UnitState) : (s.moveUnit u source target).dlc = s.dlc := by
  simp only [State.moveUnit]
  simp
@[simp] theorem State.moveUnit_psc (s : State) (u : UnitRef) (source target : UnitState) : (s.moveUnit u source target).psc = s.psc := by
  simp only [State.moveUnit]
  simp
@[simp] theorem State.moveUnit_rm (s : State) (u : UnitRef) (source target : UnitState) : (s.moveUnit u source target).rm = s.rm := by
  simp only [State.moveUnit]
  simp
@[simp] theorem State.moveUnit_pnc (s : State) (u : UnitRef) (source target : UnitState) : (s.moveUnit u source target).pnc = s.pnc := by
  simp only [State.moveUnit]
  simp
@[simp] theorem State.moveUnit_link (s : State) (u : UnitRef) (source target : UnitState) : (s.moveUnit u source target).link = s.link := by
  simp only [State.moveUnit]
  simp
@[simp] theorem State.moveUnit_pending (s : State) (u : UnitRef) (source target : UnitState) : (s.moveUnit u source target).pending = s.pending := by
  simp only [State.moveUnit]
  simp
@[simp] theorem State.suspend_rs (s : State) (h : HeadId) (why : Reason) : (s.suspend h why).rs = s.rs := by
  simp only [State.suspend]
  simp
@[simp] theorem State.suspend_stu (s : State) (h : HeadId) (why : Reason) : (s.suspend h why).stu = s.stu := by
  simp only [State.suspend]
  simp
@[simp] theorem State.suspend_trc (s : State) (h : HeadId) (why : Reason) : (s.suspend h why).trc = s.trc := by
  simp only [State.suspend]
  simp
@[simp] theorem State.suspend_dlc (s : State) (h : HeadId) (why : Reason) : (s.suspend h why).dlc = s.dlc := by
  simp only [State.suspend]
  simp
@[simp] theorem State.suspend_psc (s : State) (h : HeadId) (why : Reason) : (s.suspend h why).psc = s.psc := by
  simp only [State.suspend]
  simp
@[simp] theorem State.suspend_pending (s : State) (h : HeadId) (why : Reason) : (s.suspend h why).pending = s.pending := by
  simp only [State.suspend]
  simp
@[simp] theorem State.giveUnit_cmc (s : State) (h : HeadId) (u : UnitRef) : (s.giveUnit h u).cmc = s.cmc := by
  simp only [State.giveUnit]
  simp
@[simp] theorem State.giveUnit_rs (s : State) (h : HeadId) (u : UnitRef) : (s.giveUnit h u).rs = s.rs := by
  simp only [State.giveUnit]
  simp
@[simp] theorem State.giveUnit_trc (s : State) (h : HeadId) (u : UnitRef) : (s.giveUnit h u).trc = s.trc := by
  simp only [State.giveUnit]
  simp
@[simp] theorem State.giveUnit_dlc (s : State) (h : HeadId) (u : UnitRef) : (s.giveUnit h u).dlc = s.dlc := by
  simp only [State.giveUnit]
  simp
@[simp] theorem State.giveUnit_psc (s : State) (h : HeadId) (u : UnitRef) : (s.giveUnit h u).psc = s.psc := by
  simp only [State.giveUnit]
  simp
@[simp] theorem State.giveUnit_rm (s : State) (h : HeadId) (u : UnitRef) : (s.giveUnit h u).rm = s.rm := by
  simp only [State.giveUnit]
  simp
@[simp] theorem State.giveUnit_pnc (s : State) (h : HeadId) (u : UnitRef) : (s.giveUnit h u).pnc = s.pnc := by
  simp only [State.giveUnit]
  simp
@[simp] theorem State.giveUnit_link (s : State) (h : HeadId) (u : UnitRef) : (s.giveUnit h u).link = s.link := by
  simp only [State.giveUnit]
  simp
@[simp] theorem State.giveUnit_pending (s : State) (h : HeadId) (u : UnitRef) : (s.giveUnit h u).pending = s.pending := by
  simp only [State.giveUnit]
  simp
@[simp] theorem State.askWork_cmc (s : State) (h : HeadId) : (s.askWork h).cmc = s.cmc := by
  simp only [State.askWork]
  (repeat' split) <;> simp
@[simp] theorem State.askWork_rs (s : State) (h : HeadId) : (s.askWork h).rs = s.rs := by
  simp only [State.askWork]
  (repeat' split) <;> simp
@[simp] theorem State.askWork_trc (s : State) (h : HeadId) : (s.askWork h).trc = s.trc := by
  simp only [State.askWork]
  (repeat' split) <;> simp
@[simp] theorem State.askWork_dlc (s : State) (h : HeadId) : (s.askWork h).dlc = s.dlc := by
  simp only [State.askWork]
  (repeat' split) <;> simp
@[simp] theorem State.askWork_psc (s : State) (h : HeadId) : (s.askWork h).psc = s.psc := by
  simp only [State.askWork]
  (repeat' split) <;> simp
@[simp] theorem State.askWork_rm (s : State) (h : HeadId) : (s.askWork h).rm = s.rm := by
  simp only [State.askWork]
  (repeat' split) <;> simp
@[simp] theorem State.askWork_pnc (s : State) (h : HeadId) : (s.askWork h).pnc = s.pnc := by
  simp only [State.askWork]
  (repeat' split) <;> simp
@[simp] theorem State.askWork_link (s : State) (h : HeadId) : (s.askWork h).link = s.link := by
  simp only [State.askWork]
  (repeat' split) <;> simp
@[simp] theorem State.askWork_pending (s : State) (h : HeadId) : (s.askWork h).pending = s.pending := by
  simp only [State.askWork]
  (repeat' split) <;> simp
@[simp] theorem State.enterIdle_rs (s : State) (h : HeadId) : (s.enterIdle h).rs = s.rs := by
  simp only [State.enterIdle]
  (repeat' split) <;> simp
@[simp] theorem State.enterIdle_trc (s : State) (h : HeadId) : (s.enterIdle h).trc = s.trc := by
  simp only [State.enterIdle]
  (repeat' split) <;> simp
@[simp] theorem State.enterIdle_dlc (s : State) (h : HeadId) : (s.enterIdle h).dlc = s.dlc := by
  simp only [State.enterIdle]
  (repeat' split) <;> simp
@[simp] theorem State.enterIdle_psc (s : State) (h : HeadId) : (s.enterIdle h).psc = s.psc := by
  simp only [State.enterIdle]
  (repeat' split) <;> simp
@[simp] theorem State.enterIdle_pending (s : State) (h : HeadId) : (s.enterIdle h).pending = s.pending := by
  simp only [State.enterIdle]
  (repeat' split) <;> simp
@[simp] theorem State.askIfIdle_cmc (s : State) (h : HeadId) : (s.askIfIdle h).cmc = s.cmc := by
  simp only [State.askIfIdle]
  (repeat' split) <;> simp
@[simp] theorem State.askIfIdle_rs (s : State) (h : HeadId) : (s.askIfIdle h).rs = s.rs := by
  simp only [State.askIfIdle]
  (repeat' split) <;> simp
@[simp] theorem State.askIfIdle_trc (s : State) (h : HeadId) : (s.askIfIdle h).trc = s.trc := by
  simp only [State.askIfIdle]
  (repeat' split) <;> simp
@[simp] theorem State.askIfIdle_dlc (s : State) (h : HeadId) : (s.askIfIdle h).dlc = s.dlc := by
  simp only [State.askIfIdle]
  (repeat' split) <;> simp
@[simp] theorem State.askIfIdle_psc (s : State) (h : HeadId) : (s.askIfIdle h).psc = s.psc := by
  simp only [State.askIfIdle]
  (repeat' split) <;> simp
@[simp] theorem State.askIfIdle_rm (s : State) (h : HeadId) : (s.askIfIdle h).rm = s.rm := by
  simp only [State.askIfIdle]
  (repeat' split) <;> simp
@[simp] theorem State.askIfIdle_pnc (s : State) (h : HeadId) : (s.askIfIdle h).pnc = s.pnc := by
  simp only [State.askIfIdle]
  (repeat' split) <;> simp
@[simp] theorem State.askIfIdle_link (s : State) (h : HeadId) : (s.askIfIdle h).link = s.link := by
  simp only [State.askIfIdle]
  (repeat' split) <;> simp
@[simp] theorem State.askIfIdle_pending (s : State) (h : HeadId) : (s.askIfIdle h).pending = s.pending := by
  simp only [State.askIfIdle]
  (repeat' split) <;> simp
@[simp] theorem State.endRequest_rs (s : State) (h : HeadId) : (s.endRequest h).rs = s.rs := by
  simp only [State.endRequest]
  (repeat' split) <;> simp
@[simp] theorem State.endRequest_trc (s : State) (h : HeadId) : (s.endRequest h).trc = s.trc := by
  simp only [State.endRequest]
  (repeat' split) <;> simp
@[simp] theorem State.endRequest_dlc (s : State) (h : HeadId) : (s.endRequest h).dlc = s.dlc := by
  simp only [State.endRequest]
  (repeat' split) <;> simp
@[simp] theorem State.endRequest_psc (s : State) (h : HeadId) : (s.endRequest h).psc = s.psc := by
  simp only [State.endRequest]
  (repeat' split) <;> simp
@[simp] theorem State.endRequest_pending (s : State) (h : HeadId) : (s.endRequest h).pending = s.pending := by
  simp only [State.endRequest]
  (repeat' split) <;> simp
@[simp] theorem State.endRequests_rs (s : State) : s.endRequests.rs = s.rs := by
  simp only [State.endRequests]
  simp
@[simp] theorem State.endRequests_trc (s : State) : s.endRequests.trc = s.trc := by
  simp only [State.endRequests]
  simp
@[simp] theorem State.endRequests_dlc (s : State) : s.endRequests.dlc = s.dlc := by
  simp only [State.endRequests]
  simp
@[simp] theorem State.endRequests_psc (s : State) : s.endRequests.psc = s.psc := by
  simp only [State.endRequests]
  simp
@[simp] theorem State.endRequests_pending (s : State) : s.endRequests.pending = s.pending := by
  simp only [State.endRequests]
  simp
@[simp] theorem State.grantBand_cmc (s : State) (h : HeadId) (u : UnitRef) : (s.grantBand h u).cmc = s.cmc := by
  simp only [State.grantBand]
  simp
@[simp] theorem State.grantBand_rs (s : State) (h : HeadId) (u : UnitRef) : (s.grantBand h u).rs = s.rs := by
  simp only [State.grantBand]
  simp
@[simp] theorem State.grantBand_trc (s : State) (h : HeadId) (u : UnitRef) : (s.grantBand h u).trc = s.trc := by
  simp only [State.grantBand]
  simp
@[simp] theorem State.grantBand_dlc (s : State) (h : HeadId) (u : UnitRef) : (s.grantBand h u).dlc = s.dlc := by
  simp only [State.grantBand]
  simp
@[simp] theorem State.grantBand_psc (s : State) (h : HeadId) (u : UnitRef) : (s.grantBand h u).psc = s.psc := by
  simp only [State.grantBand]
  simp
@[simp] theorem State.grantBand_rm (s : State) (h : HeadId) (u : UnitRef) : (s.grantBand h u).rm = s.rm := by
  simp only [State.grantBand]
  simp
@[simp] theorem State.grantBand_pnc (s : State) (h : HeadId) (u : UnitRef) : (s.grantBand h u).pnc = s.pnc := by
  simp only [State.grantBand]
  simp
@[simp] theorem State.grantBand_link (s : State) (h : HeadId) (u : UnitRef) : (s.grantBand h u).link = s.link := by
  simp only [State.grantBand]
  simp
@[simp] theorem State.grantBand_pending (s : State) (h : HeadId) (u : UnitRef) : (s.grantBand h u).pending = s.pending := by
  simp only [State.grantBand]
  simp
@[simp] theorem State.decideBand_rs (s : State) : s.decideBand.rs = s.rs := by
  simp only [State.decideBand]
  (repeat' split) <;> simp
@[simp] theorem State.decideBand_trc (s : State) : s.decideBand.trc = s.trc := by
  simp only [State.decideBand]
  (repeat' split) <;> simp
@[simp] theorem State.decideBand_dlc (s : State) : s.decideBand.dlc = s.dlc := by
  simp only [State.decideBand]
  (repeat' split) <;> simp
@[simp] theorem State.decideBand_psc (s : State) : s.decideBand.psc = s.psc := by
  simp only [State.decideBand]
  (repeat' split) <;> simp
@[simp] theorem State.decideBand_pending (s : State) : s.decideBand.pending = s.pending := by
  simp only [State.decideBand]
  (repeat' split) <;> simp
@[simp] theorem State.testBondCompletion_rs (s : State) : s.testBondCompletion.rs = s.rs := by
  simp only [State.testBondCompletion]
  (repeat' split) <;> simp
@[simp] theorem State.testBondCompletion_trc (s : State) : s.testBondCompletion.trc = s.trc := by
  simp only [State.testBondCompletion]
  (repeat' split) <;> simp
@[simp] theorem State.testBondCompletion_dlc (s : State) : s.testBondCompletion.dlc = s.dlc := by
  simp only [State.testBondCompletion]
  (repeat' split) <;> simp
@[simp] theorem State.testBondCompletion_psc (s : State) : s.testBondCompletion.psc = s.psc := by
  simp only [State.testBondCompletion]
  (repeat' split) <;> simp
@[simp] theorem State.testBondCompletion_pending (s : State) : s.testBondCompletion.pending = s.pending := by
  simp only [State.testBondCompletion]
  (repeat' split) <;> simp
@[simp] theorem State.unitOutcome_rs (s : State) (h : HeadId) (outcome : UnitState) : (s.unitOutcome h outcome).rs = s.rs := by
  simp only [State.unitOutcome]
  (repeat' split) <;> simp
@[simp] theorem State.unitOutcome_trc (s : State) (h : HeadId) (outcome : UnitState) : (s.unitOutcome h outcome).trc = s.trc := by
  simp only [State.unitOutcome]
  (repeat' split) <;> simp
@[simp] theorem State.unitOutcome_dlc (s : State) (h : HeadId) (outcome : UnitState) : (s.unitOutcome h outcome).dlc = s.dlc := by
  simp only [State.unitOutcome]
  (repeat' split) <;> simp
@[simp] theorem State.unitOutcome_psc (s : State) (h : HeadId) (outcome : UnitState) : (s.unitOutcome h outcome).psc = s.psc := by
  simp only [State.unitOutcome]
  (repeat' split) <;> simp
@[simp] theorem State.unitOutcome_pending (s : State) (h : HeadId) (outcome : UnitState) : (s.unitOutcome h outcome).pending = s.pending := by
  simp only [State.unitOutcome]
  (repeat' split) <;> simp
@[simp] theorem State.wireEndReport_cmc (s : State) (strip : Nat) (outcome : WireOutcome) : (s.wireEndReport strip outcome).cmc = s.cmc := by
  simp only [State.wireEndReport]
  (repeat' split) <;> simp
@[simp] theorem State.wireEndReport_rs (s : State) (strip : Nat) (outcome : WireOutcome) : (s.wireEndReport strip outcome).rs = s.rs := by
  simp only [State.wireEndReport]
  (repeat' split) <;> simp
@[simp] theorem State.wireEndReport_heads (s : State) (strip : Nat) (outcome : WireOutcome) : (s.wireEndReport strip outcome).heads = s.heads := by
  simp only [State.wireEndReport]
  (repeat' split) <;> simp
@[simp] theorem State.wireEndReport_trc (s : State) (strip : Nat) (outcome : WireOutcome) : (s.wireEndReport strip outcome).trc = s.trc := by
  simp only [State.wireEndReport]
  (repeat' split) <;> simp
@[simp] theorem State.wireEndReport_dlc (s : State) (strip : Nat) (outcome : WireOutcome) : (s.wireEndReport strip outcome).dlc = s.dlc := by
  simp only [State.wireEndReport]
  (repeat' split) <;> simp
@[simp] theorem State.wireEndReport_psc (s : State) (strip : Nat) (outcome : WireOutcome) : (s.wireEndReport strip outcome).psc = s.psc := by
  simp only [State.wireEndReport]
  (repeat' split) <;> simp
@[simp] theorem State.wireEndReport_rm (s : State) (strip : Nat) (outcome : WireOutcome) : (s.wireEndReport strip outcome).rm = s.rm := by
  simp only [State.wireEndReport]
  (repeat' split) <;> simp
@[simp] theorem State.wireEndReport_pnc (s : State) (strip : Nat) (outcome : WireOutcome) : (s.wireEndReport strip outcome).pnc = s.pnc := by
  simp only [State.wireEndReport]
  (repeat' split) <;> simp
@[simp] theorem State.wireEndReport_link (s : State) (strip : Nat) (outcome : WireOutcome) : (s.wireEndReport strip outcome).link = s.link := by
  simp only [State.wireEndReport]
  (repeat' split) <;> simp
@[simp] theorem State.wireEndReport_pending (s : State) (strip : Nat) (outcome : WireOutcome) : (s.wireEndReport strip outcome).pending = s.pending := by
  simp only [State.wireEndReport]
  (repeat' split) <;> simp
@[simp] theorem State.marginalReport_cmc (s : State) (u : UnitRef) (wire : Nat) : (s.marginalReport u wire).cmc = s.cmc := by
  simp only [State.marginalReport]
  simp
@[simp] theorem State.marginalReport_rs (s : State) (u : UnitRef) (wire : Nat) : (s.marginalReport u wire).rs = s.rs := by
  simp only [State.marginalReport]
  simp
@[simp] theorem State.marginalReport_heads (s : State) (u : UnitRef) (wire : Nat) : (s.marginalReport u wire).heads = s.heads := by
  simp only [State.marginalReport]
  simp
@[simp] theorem State.marginalReport_trc (s : State) (u : UnitRef) (wire : Nat) : (s.marginalReport u wire).trc = s.trc := by
  simp only [State.marginalReport]
  simp
@[simp] theorem State.marginalReport_dlc (s : State) (u : UnitRef) (wire : Nat) : (s.marginalReport u wire).dlc = s.dlc := by
  simp only [State.marginalReport]
  simp
@[simp] theorem State.marginalReport_psc (s : State) (u : UnitRef) (wire : Nat) : (s.marginalReport u wire).psc = s.psc := by
  simp only [State.marginalReport]
  simp
@[simp] theorem State.marginalReport_rm (s : State) (u : UnitRef) (wire : Nat) : (s.marginalReport u wire).rm = s.rm := by
  simp only [State.marginalReport]
  simp
@[simp] theorem State.marginalReport_pnc (s : State) (u : UnitRef) (wire : Nat) : (s.marginalReport u wire).pnc = s.pnc := by
  simp only [State.marginalReport]
  simp
@[simp] theorem State.marginalReport_link (s : State) (u : UnitRef) (wire : Nat) : (s.marginalReport u wire).link = s.link := by
  simp only [State.marginalReport]
  simp
@[simp] theorem State.marginalReport_pending (s : State) (u : UnitRef) (wire : Nat) : (s.marginalReport u wire).pending = s.pending := by
  simp only [State.marginalReport]
  simp
@[simp] theorem State.pulledReport_cmc (s : State) (strip : Nat) (e : PullEntry) : (s.pulledReport strip e).cmc = s.cmc := by
  simp only [State.pulledReport]
  simp
@[simp] theorem State.pulledReport_rs (s : State) (strip : Nat) (e : PullEntry) : (s.pulledReport strip e).rs = s.rs := by
  simp only [State.pulledReport]
  simp
@[simp] theorem State.pulledReport_heads (s : State) (strip : Nat) (e : PullEntry) : (s.pulledReport strip e).heads = s.heads := by
  simp only [State.pulledReport]
  simp
@[simp] theorem State.pulledReport_trc (s : State) (strip : Nat) (e : PullEntry) : (s.pulledReport strip e).trc = s.trc := by
  simp only [State.pulledReport]
  simp
@[simp] theorem State.pulledReport_dlc (s : State) (strip : Nat) (e : PullEntry) : (s.pulledReport strip e).dlc = s.dlc := by
  simp only [State.pulledReport]
  simp
@[simp] theorem State.pulledReport_psc (s : State) (strip : Nat) (e : PullEntry) : (s.pulledReport strip e).psc = s.psc := by
  simp only [State.pulledReport]
  simp
@[simp] theorem State.pulledReport_rm (s : State) (strip : Nat) (e : PullEntry) : (s.pulledReport strip e).rm = s.rm := by
  simp only [State.pulledReport]
  simp
@[simp] theorem State.pulledReport_pnc (s : State) (strip : Nat) (e : PullEntry) : (s.pulledReport strip e).pnc = s.pnc := by
  simp only [State.pulledReport]
  simp
@[simp] theorem State.pulledReport_link (s : State) (strip : Nat) (e : PullEntry) : (s.pulledReport strip e).link = s.link := by
  simp only [State.pulledReport]
  simp
@[simp] theorem State.pulledReport_pending (s : State) (strip : Nat) (e : PullEntry) : (s.pulledReport strip e).pending = s.pending := by
  simp only [State.pulledReport]
  simp
@[simp] theorem State.indexReport_rs (s : State) : s.indexReport.rs = s.rs := by
  simp only [State.indexReport]
  (repeat' split) <;> simp
@[simp] theorem State.indexReport_trc (s : State) : s.indexReport.trc = s.trc := by
  simp only [State.indexReport]
  (repeat' split) <;> simp
@[simp] theorem State.indexReport_dlc (s : State) : s.indexReport.dlc = s.dlc := by
  simp only [State.indexReport]
  (repeat' split) <;> simp
@[simp] theorem State.indexReport_psc (s : State) : s.indexReport.psc = s.psc := by
  simp only [State.indexReport]
  (repeat' split) <;> simp
@[simp] theorem State.indexReport_pending (s : State) : s.indexReport.pending = s.pending := by
  simp only [State.indexReport]
  (repeat' split) <;> simp
@[simp] theorem State.judgeCap_rs (s : State) (h : HeadId) : (s.judgeCap h).rs = s.rs := by
  simp only [State.judgeCap]
  (repeat' split) <;> simp
@[simp] theorem State.judgeCap_stu (s : State) (h : HeadId) : (s.judgeCap h).stu = s.stu := by
  simp only [State.judgeCap]
  (repeat' split) <;> simp
@[simp] theorem State.judgeCap_trc (s : State) (h : HeadId) : (s.judgeCap h).trc = s.trc := by
  simp only [State.judgeCap]
  (repeat' split) <;> simp
@[simp] theorem State.judgeCap_dlc (s : State) (h : HeadId) : (s.judgeCap h).dlc = s.dlc := by
  simp only [State.judgeCap]
  (repeat' split) <;> simp
@[simp] theorem State.judgeCap_psc (s : State) (h : HeadId) : (s.judgeCap h).psc = s.psc := by
  simp only [State.judgeCap]
  (repeat' split) <;> simp
@[simp] theorem State.judgeCap_rm (s : State) (h : HeadId) : (s.judgeCap h).rm = s.rm := by
  simp only [State.judgeCap]
  (repeat' split) <;> simp
@[simp] theorem State.judgeCap_pending (s : State) (h : HeadId) : (s.judgeCap h).pending = s.pending := by
  simp only [State.judgeCap]
  (repeat' split) <;> simp
@[simp] theorem State.rearmCap_rs (s : State) (h : HeadId) : (s.rearmCap h).rs = s.rs := by
  simp only [State.rearmCap]
  simp
@[simp] theorem State.rearmCap_stu (s : State) (h : HeadId) : (s.rearmCap h).stu = s.stu := by
  simp only [State.rearmCap]
  simp
@[simp] theorem State.rearmCap_trc (s : State) (h : HeadId) : (s.rearmCap h).trc = s.trc := by
  simp only [State.rearmCap]
  simp
@[simp] theorem State.rearmCap_dlc (s : State) (h : HeadId) : (s.rearmCap h).dlc = s.dlc := by
  simp only [State.rearmCap]
  simp
@[simp] theorem State.rearmCap_psc (s : State) (h : HeadId) : (s.rearmCap h).psc = s.psc := by
  simp only [State.rearmCap]
  simp
@[simp] theorem State.rearmCap_rm (s : State) (h : HeadId) : (s.rearmCap h).rm = s.rm := by
  simp only [State.rearmCap]
  simp
@[simp] theorem State.rearmCap_pending (s : State) (h : HeadId) : (s.rearmCap h).pending = s.pending := by
  simp only [State.rearmCap]
  simp
@[simp] theorem State.judgeSpool_rs (s : State) (h : HeadId) : (s.judgeSpool h).rs = s.rs := by
  simp only [State.judgeSpool]
  (repeat' split) <;> simp
@[simp] theorem State.judgeSpool_stu (s : State) (h : HeadId) : (s.judgeSpool h).stu = s.stu := by
  simp only [State.judgeSpool]
  (repeat' split) <;> simp
@[simp] theorem State.judgeSpool_trc (s : State) (h : HeadId) : (s.judgeSpool h).trc = s.trc := by
  simp only [State.judgeSpool]
  (repeat' split) <;> simp
@[simp] theorem State.judgeSpool_dlc (s : State) (h : HeadId) : (s.judgeSpool h).dlc = s.dlc := by
  simp only [State.judgeSpool]
  (repeat' split) <;> simp
@[simp] theorem State.judgeSpool_psc (s : State) (h : HeadId) : (s.judgeSpool h).psc = s.psc := by
  simp only [State.judgeSpool]
  (repeat' split) <;> simp
@[simp] theorem State.judgeSpool_rm (s : State) (h : HeadId) : (s.judgeSpool h).rm = s.rm := by
  simp only [State.judgeSpool]
  (repeat' split) <;> simp
@[simp] theorem State.judgeSpool_pending (s : State) (h : HeadId) : (s.judgeSpool h).pending = s.pending := by
  simp only [State.judgeSpool]
  (repeat' split) <;> simp
@[simp] theorem State.rearmSpool_rs (s : State) (h : HeadId) : (s.rearmSpool h).rs = s.rs := by
  simp only [State.rearmSpool]
  simp
@[simp] theorem State.rearmSpool_stu (s : State) (h : HeadId) : (s.rearmSpool h).stu = s.stu := by
  simp only [State.rearmSpool]
  simp
@[simp] theorem State.rearmSpool_trc (s : State) (h : HeadId) : (s.rearmSpool h).trc = s.trc := by
  simp only [State.rearmSpool]
  simp
@[simp] theorem State.rearmSpool_dlc (s : State) (h : HeadId) : (s.rearmSpool h).dlc = s.dlc := by
  simp only [State.rearmSpool]
  simp
@[simp] theorem State.rearmSpool_psc (s : State) (h : HeadId) : (s.rearmSpool h).psc = s.psc := by
  simp only [State.rearmSpool]
  simp
@[simp] theorem State.rearmSpool_rm (s : State) (h : HeadId) : (s.rearmSpool h).rm = s.rm := by
  simp only [State.rearmSpool]
  simp
@[simp] theorem State.rearmSpool_pending (s : State) (h : HeadId) : (s.rearmSpool h).pending = s.pending := by
  simp only [State.rearmSpool]
  simp
@[simp] theorem State.judgeConsumables_rs (s : State) (h : HeadId) : (s.judgeConsumables h).rs = s.rs := by
  simp only [State.judgeConsumables]
  (repeat' split) <;> simp
@[simp] theorem State.judgeConsumables_stu (s : State) (h : HeadId) : (s.judgeConsumables h).stu = s.stu := by
  simp only [State.judgeConsumables]
  (repeat' split) <;> simp
@[simp] theorem State.judgeConsumables_trc (s : State) (h : HeadId) : (s.judgeConsumables h).trc = s.trc := by
  simp only [State.judgeConsumables]
  (repeat' split) <;> simp
@[simp] theorem State.judgeConsumables_dlc (s : State) (h : HeadId) : (s.judgeConsumables h).dlc = s.dlc := by
  simp only [State.judgeConsumables]
  (repeat' split) <;> simp
@[simp] theorem State.judgeConsumables_psc (s : State) (h : HeadId) : (s.judgeConsumables h).psc = s.psc := by
  simp only [State.judgeConsumables]
  (repeat' split) <;> simp
@[simp] theorem State.judgeConsumables_rm (s : State) (h : HeadId) : (s.judgeConsumables h).rm = s.rm := by
  simp only [State.judgeConsumables]
  (repeat' split) <;> simp
@[simp] theorem State.judgeConsumables_pending (s : State) (h : HeadId) : (s.judgeConsumables h).pending = s.pending := by
  simp only [State.judgeConsumables]
  (repeat' split) <;> simp
@[simp] theorem State.endWire_rs (s : State) (h : HeadId) (outcome : WireOutcome) (setRestart : Bool) (why : Option Reason) : (s.endWire h outcome setRestart why).rs = s.rs := by
  simp only [State.endWire]
  (repeat' split) <;> simp
@[simp] theorem State.endWire_trc (s : State) (h : HeadId) (outcome : WireOutcome) (setRestart : Bool) (why : Option Reason) : (s.endWire h outcome setRestart why).trc = s.trc := by
  simp only [State.endWire]
  (repeat' split) <;> simp
@[simp] theorem State.endWire_dlc (s : State) (h : HeadId) (outcome : WireOutcome) (setRestart : Bool) (why : Option Reason) : (s.endWire h outcome setRestart why).dlc = s.dlc := by
  simp only [State.endWire]
  (repeat' split) <;> simp
@[simp] theorem State.endWire_psc (s : State) (h : HeadId) (outcome : WireOutcome) (setRestart : Bool) (why : Option Reason) : (s.endWire h outcome setRestart why).psc = s.psc := by
  simp only [State.endWire]
  (repeat' split) <;> simp
@[simp] theorem State.endWire_pending (s : State) (h : HeadId) (outcome : WireOutcome) (setRestart : Bool) (why : Option Reason) : (s.endWire h outcome setRestart why).pending = s.pending := by
  simp only [State.endWire]
  (repeat' split) <;> simp
@[simp] theorem State.abortWire_rs (s : State) (h : HeadId) (why : Option Reason) : (s.abortWire h why).rs = s.rs := by
  simp only [State.abortWire]
  simp
@[simp] theorem State.abortWire_trc (s : State) (h : HeadId) (why : Option Reason) : (s.abortWire h why).trc = s.trc := by
  simp only [State.abortWire]
  simp
@[simp] theorem State.abortWire_dlc (s : State) (h : HeadId) (why : Option Reason) : (s.abortWire h why).dlc = s.dlc := by
  simp only [State.abortWire]
  simp
@[simp] theorem State.abortWire_psc (s : State) (h : HeadId) (why : Option Reason) : (s.abortWire h why).psc = s.psc := by
  simp only [State.abortWire]
  simp
@[simp] theorem State.abortWire_pending (s : State) (h : HeadId) (why : Option Reason) : (s.abortWire h why).pending = s.pending := by
  simp only [State.abortWire]
  simp
@[simp] theorem State.driveFault_rs (s : State) (h : HeadId) : (s.driveFault h).rs = s.rs := by
  simp only [State.driveFault]
  simp
@[simp] theorem State.driveFault_trc (s : State) (h : HeadId) : (s.driveFault h).trc = s.trc := by
  simp only [State.driveFault]
  simp
@[simp] theorem State.driveFault_dlc (s : State) (h : HeadId) : (s.driveFault h).dlc = s.dlc := by
  simp only [State.driveFault]
  simp
@[simp] theorem State.driveFault_psc (s : State) (h : HeadId) : (s.driveFault h).psc = s.psc := by
  simp only [State.driveFault]
  simp
@[simp] theorem State.driveFault_pending (s : State) (h : HeadId) : (s.driveFault h).pending = s.pending := by
  simp only [State.driveFault]
  simp
@[simp] theorem State.haltHead_rs (s : State) (h : HeadId) : (s.haltHead h).rs = s.rs := by
  simp only [State.haltHead]
  (repeat' split) <;> simp
@[simp] theorem State.haltHead_trc (s : State) (h : HeadId) : (s.haltHead h).trc = s.trc := by
  simp only [State.haltHead]
  (repeat' split) <;> simp
@[simp] theorem State.haltHead_dlc (s : State) (h : HeadId) : (s.haltHead h).dlc = s.dlc := by
  simp only [State.haltHead]
  (repeat' split) <;> simp
@[simp] theorem State.haltHead_psc (s : State) (h : HeadId) : (s.haltHead h).psc = s.psc := by
  simp only [State.haltHead]
  (repeat' split) <;> simp
@[simp] theorem State.haltHead_pending (s : State) (h : HeadId) : (s.haltHead h).pending = s.pending := by
  simp only [State.haltHead]
  (repeat' split) <;> simp
@[simp] theorem State.wireBreak_rs (s : State) (h : HeadId) : (s.wireBreak h).rs = s.rs := by
  simp only [State.wireBreak]
  (repeat' split) <;> simp
@[simp] theorem State.wireBreak_trc (s : State) (h : HeadId) : (s.wireBreak h).trc = s.trc := by
  simp only [State.wireBreak]
  (repeat' split) <;> simp
@[simp] theorem State.wireBreak_dlc (s : State) (h : HeadId) : (s.wireBreak h).dlc = s.dlc := by
  simp only [State.wireBreak]
  (repeat' split) <;> simp
@[simp] theorem State.wireBreak_psc (s : State) (h : HeadId) : (s.wireBreak h).psc = s.psc := by
  simp only [State.wireBreak]
  (repeat' split) <;> simp
@[simp] theorem State.wireBreak_pending (s : State) (h : HeadId) : (s.wireBreak h).pending = s.pending := by
  simp only [State.wireBreak]
  (repeat' split) <;> simp
@[simp] theorem State.beginOp_rs (s : State) (h : HeadId) (p : Phase) (op : DriveOp) : (s.beginOp h p op).rs = s.rs := by
  simp only [State.beginOp]
  (repeat' split) <;> simp
@[simp] theorem State.beginOp_trc (s : State) (h : HeadId) (p : Phase) (op : DriveOp) : (s.beginOp h p op).trc = s.trc := by
  simp only [State.beginOp]
  (repeat' split) <;> simp
@[simp] theorem State.beginOp_psc (s : State) (h : HeadId) (p : Phase) (op : DriveOp) : (s.beginOp h p op).psc = s.psc := by
  simp only [State.beginOp]
  (repeat' split) <;> simp
@[simp] theorem State.beginOp_pending (s : State) (h : HeadId) (p : Phase) (op : DriveOp) : (s.beginOp h p op).pending = s.pending := by
  simp only [State.beginOp]
  (repeat' split) <;> simp
@[simp] theorem State.enterSearch_rs (s : State) (h : HeadId) (n : Snapshot) (b : Bond) : (s.enterSearch h n b).rs = s.rs := by
  simp only [State.enterSearch]
  (repeat' split) <;> simp
@[simp] theorem State.enterSearch_trc (s : State) (h : HeadId) (n : Snapshot) (b : Bond) : (s.enterSearch h n b).trc = s.trc := by
  simp only [State.enterSearch]
  (repeat' split) <;> simp
@[simp] theorem State.enterSearch_psc (s : State) (h : HeadId) (n : Snapshot) (b : Bond) : (s.enterSearch h n b).psc = s.psc := by
  simp only [State.enterSearch]
  (repeat' split) <;> simp
@[simp] theorem State.enterSearch_pending (s : State) (h : HeadId) (n : Snapshot) (b : Bond) : (s.enterSearch h n b).pending = s.pending := by
  simp only [State.enterSearch]
  (repeat' split) <;> simp
@[simp] theorem State.enterMove_rs (s : State) (h : HeadId) (n : Snapshot) : (s.enterMove h n).rs = s.rs := by
  simp only [State.enterMove]
  simp
@[simp] theorem State.enterMove_trc (s : State) (h : HeadId) (n : Snapshot) : (s.enterMove h n).trc = s.trc := by
  simp only [State.enterMove]
  simp
@[simp] theorem State.enterMove_psc (s : State) (h : HeadId) (n : Snapshot) : (s.enterMove h n).psc = s.psc := by
  simp only [State.enterMove]
  simp
@[simp] theorem State.enterMove_pending (s : State) (h : HeadId) (n : Snapshot) : (s.enterMove h n).pending = s.pending := by
  simp only [State.enterMove]
  simp
@[simp] theorem State.enterLoop_rs (s : State) (h : HeadId) (n : Snapshot) : (s.enterLoop h n).rs = s.rs := by
  simp only [State.enterLoop]
  simp
@[simp] theorem State.enterLoop_trc (s : State) (h : HeadId) (n : Snapshot) : (s.enterLoop h n).trc = s.trc := by
  simp only [State.enterLoop]
  simp
@[simp] theorem State.enterLoop_psc (s : State) (h : HeadId) (n : Snapshot) : (s.enterLoop h n).psc = s.psc := by
  simp only [State.enterLoop]
  simp
@[simp] theorem State.enterLoop_pending (s : State) (h : HeadId) (n : Snapshot) : (s.enterLoop h n).pending = s.pending := by
  simp only [State.enterLoop]
  simp
@[simp] theorem State.enterRaise_rs (s : State) (h : HeadId) : (s.enterRaise h).rs = s.rs := by
  simp only [State.enterRaise]
  simp
@[simp] theorem State.enterRaise_trc (s : State) (h : HeadId) : (s.enterRaise h).trc = s.trc := by
  simp only [State.enterRaise]
  simp
@[simp] theorem State.enterRaise_psc (s : State) (h : HeadId) : (s.enterRaise h).psc = s.psc := by
  simp only [State.enterRaise]
  simp
@[simp] theorem State.enterRaise_pending (s : State) (h : HeadId) : (s.enterRaise h).pending = s.pending := by
  simp only [State.enterRaise]
  simp
@[simp] theorem State.searchFailed_rs (s : State) (h : HeadId) (b : Bond) (v : Verdict) : (s.searchFailed h b v).rs = s.rs := by
  simp only [State.searchFailed]
  simp
@[simp] theorem State.searchFailed_trc (s : State) (h : HeadId) (b : Bond) (v : Verdict) : (s.searchFailed h b v).trc = s.trc := by
  simp only [State.searchFailed]
  simp
@[simp] theorem State.searchFailed_psc (s : State) (h : HeadId) (b : Bond) (v : Verdict) : (s.searchFailed h b v).psc = s.psc := by
  simp only [State.searchFailed]
  simp
@[simp] theorem State.searchFailed_pending (s : State) (h : HeadId) (b : Bond) (v : Verdict) : (s.searchFailed h b v).pending = s.pending := by
  simp only [State.searchFailed]
  simp
@[simp] theorem State.enterWeld_cmc (s : State) (h : HeadId) (n : Snapshot) (b : Bond) : (s.enterWeld h n b).cmc = s.cmc := by
  simp only [State.enterWeld]
  (repeat' split) <;> simp
@[simp] theorem State.enterWeld_rs (s : State) (h : HeadId) (n : Snapshot) (b : Bond) : (s.enterWeld h n b).rs = s.rs := by
  simp only [State.enterWeld]
  (repeat' split) <;> simp
@[simp] theorem State.enterWeld_stu (s : State) (h : HeadId) (n : Snapshot) (b : Bond) : (s.enterWeld h n b).stu = s.stu := by
  simp only [State.enterWeld]
  (repeat' split) <;> simp
@[simp] theorem State.enterWeld_trc (s : State) (h : HeadId) (n : Snapshot) (b : Bond) : (s.enterWeld h n b).trc = s.trc := by
  simp only [State.enterWeld]
  (repeat' split) <;> simp
@[simp] theorem State.enterWeld_dlc (s : State) (h : HeadId) (n : Snapshot) (b : Bond) : (s.enterWeld h n b).dlc = s.dlc := by
  simp only [State.enterWeld]
  (repeat' split) <;> simp
@[simp] theorem State.enterWeld_psc (s : State) (h : HeadId) (n : Snapshot) (b : Bond) : (s.enterWeld h n b).psc = s.psc := by
  simp only [State.enterWeld]
  (repeat' split) <;> simp
@[simp] theorem State.enterWeld_rm (s : State) (h : HeadId) (n : Snapshot) (b : Bond) : (s.enterWeld h n b).rm = s.rm := by
  simp only [State.enterWeld]
  (repeat' split) <;> simp
@[simp] theorem State.enterWeld_pnc (s : State) (h : HeadId) (n : Snapshot) (b : Bond) : (s.enterWeld h n b).pnc = s.pnc := by
  simp only [State.enterWeld]
  (repeat' split) <;> simp
@[simp] theorem State.enterWeld_link (s : State) (h : HeadId) (n : Snapshot) (b : Bond) : (s.enterWeld h n b).link = s.link := by
  simp only [State.enterWeld]
  (repeat' split) <;> simp
@[simp] theorem State.enterWeld_pending (s : State) (h : HeadId) (n : Snapshot) (b : Bond) : (s.enterWeld h n b).pending = s.pending := by
  simp only [State.enterWeld]
  (repeat' split) <;> simp
@[simp] theorem State.contact_rs (s : State) (h : HeadId) (n : Snapshot) (b : Bond) (z : Nat) : (s.contact h n b z).rs = s.rs := by
  simp only [State.contact]
  (repeat' split) <;> simp
@[simp] theorem State.contact_trc (s : State) (h : HeadId) (n : Snapshot) (b : Bond) (z : Nat) : (s.contact h n b z).trc = s.trc := by
  simp only [State.contact]
  (repeat' split) <;> simp
@[simp] theorem State.contact_psc (s : State) (h : HeadId) (n : Snapshot) (b : Bond) (z : Nat) : (s.contact h n b z).psc = s.psc := by
  simp only [State.contact]
  (repeat' split) <;> simp
@[simp] theorem State.contact_pending (s : State) (h : HeadId) (n : Snapshot) (b : Bond) (z : Nat) : (s.contact h n b z).pending = s.pending := by
  simp only [State.contact]
  (repeat' split) <;> simp
@[simp] theorem State.weldExpired_cmc (s : State) (h : HeadId) (n : Snapshot) (b : Bond) (z : Nat) : (s.weldExpired h n b z).cmc = s.cmc := by
  simp only [State.weldExpired]
  (repeat' split) <;> simp
@[simp] theorem State.weldExpired_rs (s : State) (h : HeadId) (n : Snapshot) (b : Bond) (z : Nat) : (s.weldExpired h n b z).rs = s.rs := by
  simp only [State.weldExpired]
  (repeat' split) <;> simp
@[simp] theorem State.weldExpired_stu (s : State) (h : HeadId) (n : Snapshot) (b : Bond) (z : Nat) : (s.weldExpired h n b z).stu = s.stu := by
  simp only [State.weldExpired]
  (repeat' split) <;> simp
@[simp] theorem State.weldExpired_trc (s : State) (h : HeadId) (n : Snapshot) (b : Bond) (z : Nat) : (s.weldExpired h n b z).trc = s.trc := by
  simp only [State.weldExpired]
  (repeat' split) <;> simp
@[simp] theorem State.weldExpired_dlc (s : State) (h : HeadId) (n : Snapshot) (b : Bond) (z : Nat) : (s.weldExpired h n b z).dlc = s.dlc := by
  simp only [State.weldExpired]
  (repeat' split) <;> simp
@[simp] theorem State.weldExpired_psc (s : State) (h : HeadId) (n : Snapshot) (b : Bond) (z : Nat) : (s.weldExpired h n b z).psc = s.psc := by
  simp only [State.weldExpired]
  (repeat' split) <;> simp
@[simp] theorem State.weldExpired_rm (s : State) (h : HeadId) (n : Snapshot) (b : Bond) (z : Nat) : (s.weldExpired h n b z).rm = s.rm := by
  simp only [State.weldExpired]
  (repeat' split) <;> simp
@[simp] theorem State.weldExpired_pnc (s : State) (h : HeadId) (n : Snapshot) (b : Bond) (z : Nat) : (s.weldExpired h n b z).pnc = s.pnc := by
  simp only [State.weldExpired]
  (repeat' split) <;> simp
@[simp] theorem State.weldExpired_link (s : State) (h : HeadId) (n : Snapshot) (b : Bond) (z : Nat) : (s.weldExpired h n b z).link = s.link := by
  simp only [State.weldExpired]
  (repeat' split) <;> simp
@[simp] theorem State.weldExpired_pending (s : State) (h : HeadId) (n : Snapshot) (b : Bond) (z : Nat) : (s.weldExpired h n b z).pending = s.pending := by
  simp only [State.weldExpired]
  (repeat' split) <;> simp
@[simp] theorem State.enterSpark_cmc (s : State) (h : HeadId) (source : SparkFrom) : (s.enterSpark h source).cmc = s.cmc := by
  simp only [State.enterSpark]
  simp
@[simp] theorem State.enterSpark_rs (s : State) (h : HeadId) (source : SparkFrom) : (s.enterSpark h source).rs = s.rs := by
  simp only [State.enterSpark]
  simp
@[simp] theorem State.enterSpark_stu (s : State) (h : HeadId) (source : SparkFrom) : (s.enterSpark h source).stu = s.stu := by
  simp only [State.enterSpark]
  simp
@[simp] theorem State.enterSpark_trc (s : State) (h : HeadId) (source : SparkFrom) : (s.enterSpark h source).trc = s.trc := by
  simp only [State.enterSpark]
  simp
@[simp] theorem State.enterSpark_dlc (s : State) (h : HeadId) (source : SparkFrom) : (s.enterSpark h source).dlc = s.dlc := by
  simp only [State.enterSpark]
  simp
@[simp] theorem State.enterSpark_psc (s : State) (h : HeadId) (source : SparkFrom) : (s.enterSpark h source).psc = s.psc := by
  simp only [State.enterSpark]
  simp
@[simp] theorem State.enterSpark_rm (s : State) (h : HeadId) (source : SparkFrom) : (s.enterSpark h source).rm = s.rm := by
  simp only [State.enterSpark]
  simp
@[simp] theorem State.enterSpark_pnc (s : State) (h : HeadId) (source : SparkFrom) : (s.enterSpark h source).pnc = s.pnc := by
  simp only [State.enterSpark]
  simp
@[simp] theorem State.enterSpark_link (s : State) (h : HeadId) (source : SparkFrom) : (s.enterSpark h source).link = s.link := by
  simp only [State.enterSpark]
  simp
@[simp] theorem State.enterSpark_pending (s : State) (h : HeadId) (source : SparkFrom) : (s.enterSpark h source).pending = s.pending := by
  simp only [State.enterSpark]
  simp
@[simp] theorem State.checkEnded_rs (s : State) (h : HeadId) (n : Snapshot) (b : Bond) (attached : Bool) : (s.checkEnded h n b attached).rs = s.rs := by
  simp only [State.checkEnded]
  (repeat' split) <;> simp
@[simp] theorem State.checkEnded_trc (s : State) (h : HeadId) (n : Snapshot) (b : Bond) (attached : Bool) : (s.checkEnded h n b attached).trc = s.trc := by
  simp only [State.checkEnded]
  (repeat' split) <;> simp
@[simp] theorem State.checkEnded_psc (s : State) (h : HeadId) (n : Snapshot) (b : Bond) (attached : Bool) : (s.checkEnded h n b attached).psc = s.psc := by
  simp only [State.checkEnded]
  (repeat' split) <;> simp
@[simp] theorem State.checkEnded_pending (s : State) (h : HeadId) (n : Snapshot) (b : Bond) (attached : Bool) : (s.checkEnded h n b attached).pending = s.pending := by
  simp only [State.checkEnded]
  (repeat' split) <;> simp
@[simp] theorem State.sparkSucceeded_rs (s : State) (h : HeadId) (n : Snapshot) : (s.sparkSucceeded h n).rs = s.rs := by
  simp only [State.sparkSucceeded]
  (repeat' split) <;> simp
@[simp] theorem State.sparkSucceeded_trc (s : State) (h : HeadId) (n : Snapshot) : (s.sparkSucceeded h n).trc = s.trc := by
  simp only [State.sparkSucceeded]
  (repeat' split) <;> simp
@[simp] theorem State.sparkSucceeded_psc (s : State) (h : HeadId) (n : Snapshot) : (s.sparkSucceeded h n).psc = s.psc := by
  simp only [State.sparkSucceeded]
  (repeat' split) <;> simp
@[simp] theorem State.sparkSucceeded_pending (s : State) (h : HeadId) (n : Snapshot) : (s.sparkSucceeded h n).pending = s.pending := by
  simp only [State.sparkSucceeded]
  (repeat' split) <;> simp
@[simp] theorem State.restartFailed_rs (s : State) (h : HeadId) : (s.restartFailed h).rs = s.rs := by
  simp only [State.restartFailed]
  simp
@[simp] theorem State.restartFailed_stu (s : State) (h : HeadId) : (s.restartFailed h).stu = s.stu := by
  simp only [State.restartFailed]
  simp
@[simp] theorem State.restartFailed_dlc (s : State) (h : HeadId) : (s.restartFailed h).dlc = s.dlc := by
  simp only [State.restartFailed]
  simp
@[simp] theorem State.restartFailed_pending (s : State) (h : HeadId) : (s.restartFailed h).pending = s.pending := by
  simp only [State.restartFailed]
  simp
@[simp] theorem State.sparkOpen_rs (s : State) (h : HeadId) (n : Snapshot) : (s.sparkOpen h n).rs = s.rs := by
  simp only [State.sparkOpen]
  (repeat' split) <;> simp
@[simp] theorem State.sparkOpen_dlc (s : State) (h : HeadId) (n : Snapshot) : (s.sparkOpen h n).dlc = s.dlc := by
  simp only [State.sparkOpen]
  (repeat' split) <;> simp
@[simp] theorem State.sparkOpen_pending (s : State) (h : HeadId) (n : Snapshot) : (s.sparkOpen h n).pending = s.pending := by
  simp only [State.sparkOpen]
  (repeat' split) <;> simp
@[simp] theorem State.raiseEnded_rs (s : State) (h : HeadId) : (s.raiseEnded h).rs = s.rs := by
  simp only [State.raiseEnded]
  (repeat' split) <;> simp
@[simp] theorem State.raiseEnded_trc (s : State) (h : HeadId) : (s.raiseEnded h).trc = s.trc := by
  simp only [State.raiseEnded]
  (repeat' split) <;> simp
@[simp] theorem State.raiseEnded_dlc (s : State) (h : HeadId) : (s.raiseEnded h).dlc = s.dlc := by
  simp only [State.raiseEnded]
  (repeat' split) <;> simp
@[simp] theorem State.raiseEnded_psc (s : State) (h : HeadId) : (s.raiseEnded h).psc = s.psc := by
  simp only [State.raiseEnded]
  (repeat' split) <;> simp
@[simp] theorem State.raiseEnded_pending (s : State) (h : HeadId) : (s.raiseEnded h).pending = s.pending := by
  simp only [State.raiseEnded]
  (repeat' split) <;> simp
@[simp] theorem State.searchDone_rs (s : State) (h : HeadId) (b : Bond) (results : List Byte) : (s.searchDone h b results).rs = s.rs := by
  simp only [State.searchDone]
  (repeat' split) <;> simp
@[simp] theorem State.searchDone_trc (s : State) (h : HeadId) (b : Bond) (results : List Byte) : (s.searchDone h b results).trc = s.trc := by
  simp only [State.searchDone]
  (repeat' split) <;> simp
@[simp] theorem State.searchDone_psc (s : State) (h : HeadId) (b : Bond) (results : List Byte) : (s.searchDone h b results).psc = s.psc := by
  simp only [State.searchDone]
  (repeat' split) <;> simp
@[simp] theorem State.searchDone_pending (s : State) (h : HeadId) (b : Bond) (results : List Byte) : (s.searchDone h b results).pending = s.pending := by
  simp only [State.searchDone]
  (repeat' split) <;> simp
@[simp] theorem State.phaseDone_rs (s : State) (h : HeadId) (n : Snapshot) (p : Phase) (results : List Byte) : (s.phaseDone h n p results).rs = s.rs := by
  simp only [State.phaseDone]
  (repeat' split) <;> simp
@[simp] theorem State.phaseDone_trc (s : State) (h : HeadId) (n : Snapshot) (p : Phase) (results : List Byte) : (s.phaseDone h n p results).trc = s.trc := by
  simp only [State.phaseDone]
  (repeat' split) <;> simp
@[simp] theorem State.phaseDone_psc (s : State) (h : HeadId) (n : Snapshot) (p : Phase) (results : List Byte) : (s.phaseDone h n p results).psc = s.psc := by
  simp only [State.phaseDone]
  (repeat' split) <;> simp
@[simp] theorem State.phaseDone_pending (s : State) (h : HeadId) (n : Snapshot) (p : Phase) (results : List Byte) : (s.phaseDone h n p results).pending = s.pending := by
  simp only [State.phaseDone]
  (repeat' split) <;> simp
@[simp] theorem State.issueHeld_rs (s : State) (h : HeadId) : (s.issueHeld h).rs = s.rs := by
  simp only [State.issueHeld]
  (repeat' split) <;> simp
@[simp] theorem State.issueHeld_trc (s : State) (h : HeadId) : (s.issueHeld h).trc = s.trc := by
  simp only [State.issueHeld]
  (repeat' split) <;> simp
@[simp] theorem State.issueHeld_psc (s : State) (h : HeadId) : (s.issueHeld h).psc = s.psc := by
  simp only [State.issueHeld]
  (repeat' split) <;> simp
@[simp] theorem State.issueHeld_pending (s : State) (h : HeadId) : (s.issueHeld h).pending = s.pending := by
  simp only [State.issueHeld]
  (repeat' split) <;> simp
@[simp] theorem State.positionerEnded_rs (s : State) (h : HeadId) (c : Completion) : (s.positionerEnded h c).rs = s.rs := by
  simp only [State.positionerEnded]
  (repeat' split) <;> simp
@[simp] theorem State.positionerEnded_trc (s : State) (h : HeadId) (c : Completion) : (s.positionerEnded h c).trc = s.trc := by
  simp only [State.positionerEnded]
  (repeat' split) <;> simp
@[simp] theorem State.positionerEnded_psc (s : State) (h : HeadId) (c : Completion) : (s.positionerEnded h c).psc = s.psc := by
  simp only [State.positionerEnded]
  (repeat' split) <;> simp
@[simp] theorem State.positionerEnded_pending (s : State) (h : HeadId) (c : Completion) : (s.positionerEnded h c).pending = s.pending := by
  simp only [State.positionerEnded]
  (repeat' split) <;> simp
@[simp] theorem State.startWire_rs (s : State) (h : HeadId) (u : UnitRef) : (s.startWire h u).rs = s.rs := by
  simp only [State.startWire]
  (repeat' split) <;> simp
@[simp] theorem State.startWire_trc (s : State) (h : HeadId) (u : UnitRef) : (s.startWire h u).trc = s.trc := by
  simp only [State.startWire]
  (repeat' split) <;> simp
@[simp] theorem State.startWire_psc (s : State) (h : HeadId) (u : UnitRef) : (s.startWire h u).psc = s.psc := by
  simp only [State.startWire]
  (repeat' split) <;> simp
@[simp] theorem State.startWire_pending (s : State) (h : HeadId) (u : UnitRef) : (s.startWire h u).pending = s.pending := by
  simp only [State.startWire]
  (repeat' split) <;> simp
@[simp] theorem State.resumeEffect_rs (s : State) (h : HeadId) (why : Reason) : (s.resumeEffect h why).rs = s.rs := by
  simp only [State.resumeEffect]
  (repeat' split) <;> simp
@[simp] theorem State.resumeEffect_stu (s : State) (h : HeadId) (why : Reason) : (s.resumeEffect h why).stu = s.stu := by
  simp only [State.resumeEffect]
  (repeat' split) <;> simp
@[simp] theorem State.resumeEffect_trc (s : State) (h : HeadId) (why : Reason) : (s.resumeEffect h why).trc = s.trc := by
  simp only [State.resumeEffect]
  (repeat' split) <;> simp
@[simp] theorem State.resumeEffect_dlc (s : State) (h : HeadId) (why : Reason) : (s.resumeEffect h why).dlc = s.dlc := by
  simp only [State.resumeEffect]
  (repeat' split) <;> simp
@[simp] theorem State.resumeEffect_psc (s : State) (h : HeadId) (why : Reason) : (s.resumeEffect h why).psc = s.psc := by
  simp only [State.resumeEffect]
  (repeat' split) <;> simp
@[simp] theorem State.resumeEffect_pending (s : State) (h : HeadId) (why : Reason) : (s.resumeEffect h why).pending = s.pending := by
  simp only [State.resumeEffect]
  (repeat' split) <;> simp
@[simp] theorem State.resume_rs (s : State) (h : HeadId) (why : Reason) : (s.resume h why).rs = s.rs := by
  simp only [State.resume]
  (repeat' split) <;> simp
@[simp] theorem State.resume_trc (s : State) (h : HeadId) (why : Reason) : (s.resume h why).trc = s.trc := by
  simp only [State.resume]
  (repeat' split) <;> simp
@[simp] theorem State.resume_dlc (s : State) (h : HeadId) (why : Reason) : (s.resume h why).dlc = s.dlc := by
  simp only [State.resume]
  (repeat' split) <;> simp
@[simp] theorem State.resume_psc (s : State) (h : HeadId) (why : Reason) : (s.resume h why).psc = s.psc := by
  simp only [State.resume]
  (repeat' split) <;> simp
@[simp] theorem State.resume_pending (s : State) (h : HeadId) (why : Reason) : (s.resume h why).pending = s.pending := by
  simp only [State.resume]
  (repeat' split) <;> simp
@[simp] theorem State.joinStopped_rs (s : State) (i : StopItem) : (s.joinStopped i).rs = s.rs := by
  simp only [State.joinStopped]
  (repeat' split) <;> simp
@[simp] theorem State.joinStopped_heads (s : State) (i : StopItem) : (s.joinStopped i).heads = s.heads := by
  simp only [State.joinStopped]
  (repeat' split) <;> simp
@[simp] theorem State.joinStopped_stu (s : State) (i : StopItem) : (s.joinStopped i).stu = s.stu := by
  simp only [State.joinStopped]
  (repeat' split) <;> simp
@[simp] theorem State.joinStopped_dlc (s : State) (i : StopItem) : (s.joinStopped i).dlc = s.dlc := by
  simp only [State.joinStopped]
  (repeat' split) <;> simp
@[simp] theorem State.joinStopped_psc (s : State) (i : StopItem) : (s.joinStopped i).psc = s.psc := by
  simp only [State.joinStopped]
  (repeat' split) <;> simp
@[simp] theorem State.joinStopped_rm (s : State) (i : StopItem) : (s.joinStopped i).rm = s.rm := by
  simp only [State.joinStopped]
  (repeat' split) <;> simp
@[simp] theorem State.joinStopped_pending (s : State) (i : StopItem) : (s.joinStopped i).pending = s.pending := by
  simp only [State.joinStopped]
  (repeat' split) <;> simp
@[simp] theorem State.exhaustInput_rs (s : State) : s.exhaustInput.rs = s.rs := by
  simp only [State.exhaustInput]
  simp
@[simp] theorem State.exhaustInput_heads (s : State) : s.exhaustInput.heads = s.heads := by
  simp only [State.exhaustInput]
  simp
@[simp] theorem State.exhaustInput_stu (s : State) : s.exhaustInput.stu = s.stu := by
  simp only [State.exhaustInput]
  simp
@[simp] theorem State.exhaustInput_dlc (s : State) : s.exhaustInput.dlc = s.dlc := by
  simp only [State.exhaustInput]
  simp
@[simp] theorem State.exhaustInput_psc (s : State) : s.exhaustInput.psc = s.psc := by
  simp only [State.exhaustInput]
  simp
@[simp] theorem State.exhaustInput_rm (s : State) : s.exhaustInput.rm = s.rm := by
  simp only [State.exhaustInput]
  simp
@[simp] theorem State.exhaustInput_pending (s : State) : s.exhaustInput.pending = s.pending := by
  simp only [State.exhaustInput]
  simp
@[simp] theorem State.scanEnd_rs (s : State) : s.scanEnd.rs = s.rs := by
  simp only [State.scanEnd]
  (repeat' split) <;> simp
@[simp] theorem State.scanEnd_heads (s : State) : s.scanEnd.heads = s.heads := by
  simp only [State.scanEnd]
  (repeat' split) <;> simp
@[simp] theorem State.scanEnd_stu (s : State) : s.scanEnd.stu = s.stu := by
  simp only [State.scanEnd]
  (repeat' split) <;> simp
@[simp] theorem State.scanEnd_dlc (s : State) : s.scanEnd.dlc = s.dlc := by
  simp only [State.scanEnd]
  (repeat' split) <;> simp
@[simp] theorem State.scanEnd_psc (s : State) : s.scanEnd.psc = s.psc := by
  simp only [State.scanEnd]
  (repeat' split) <;> simp
@[simp] theorem State.scanEnd_pending (s : State) : s.scanEnd.pending = s.pending := by
  simp only [State.scanEnd]
  (repeat' split) <;> simp
@[simp] theorem State.issueScan_cmc (s : State) (k : Nat) : (s.issueScan k).cmc = s.cmc := by
  simp only [State.issueScan]
  simp
@[simp] theorem State.issueScan_rs (s : State) (k : Nat) : (s.issueScan k).rs = s.rs := by
  simp only [State.issueScan]
  simp
@[simp] theorem State.issueScan_heads (s : State) (k : Nat) : (s.issueScan k).heads = s.heads := by
  simp only [State.issueScan]
  simp
@[simp] theorem State.issueScan_stu (s : State) (k : Nat) : (s.issueScan k).stu = s.stu := by
  simp only [State.issueScan]
  simp
@[simp] theorem State.issueScan_psc (s : State) (k : Nat) : (s.issueScan k).psc = s.psc := by
  simp only [State.issueScan]
  simp
@[simp] theorem State.issueScan_rm (s : State) (k : Nat) : (s.issueScan k).rm = s.rm := by
  simp only [State.issueScan]
  simp
@[simp] theorem State.issueScan_pnc (s : State) (k : Nat) : (s.issueScan k).pnc = s.pnc := by
  simp only [State.issueScan]
  simp
@[simp] theorem State.issueScan_link (s : State) (k : Nat) : (s.issueScan k).link = s.link := by
  simp only [State.issueScan]
  simp
@[simp] theorem State.issueScan_pending (s : State) (k : Nat) : (s.issueScan k).pending = s.pending := by
  simp only [State.issueScan]
  simp
@[simp] theorem State.scanStopped_cmc (s : State) : s.scanStopped.cmc = s.cmc := by
  simp only [State.scanStopped]
  simp
@[simp] theorem State.scanStopped_rs (s : State) : s.scanStopped.rs = s.rs := by
  simp only [State.scanStopped]
  simp
@[simp] theorem State.scanStopped_heads (s : State) : s.scanStopped.heads = s.heads := by
  simp only [State.scanStopped]
  simp
@[simp] theorem State.scanStopped_stu (s : State) : s.scanStopped.stu = s.stu := by
  simp only [State.scanStopped]
  simp
@[simp] theorem State.scanStopped_dlc (s : State) : s.scanStopped.dlc = s.dlc := by
  simp only [State.scanStopped]
  simp
@[simp] theorem State.scanStopped_psc (s : State) : s.scanStopped.psc = s.psc := by
  simp only [State.scanStopped]
  simp
@[simp] theorem State.scanStopped_rm (s : State) : s.scanStopped.rm = s.rm := by
  simp only [State.scanStopped]
  simp
@[simp] theorem State.scanStopped_pnc (s : State) : s.scanStopped.pnc = s.pnc := by
  simp only [State.scanStopped]
  simp
@[simp] theorem State.scanStopped_link (s : State) : s.scanStopped.link = s.link := by
  simp only [State.scanStopped]
  simp
@[simp] theorem State.scanStopped_pending (s : State) : s.scanStopped.pending = s.pending := by
  simp only [State.scanStopped]
  simp
@[simp] theorem State.scanOn_rs (s : State) (k : Nat) : (s.scanOn k).rs = s.rs := by
  simp only [State.scanOn]
  (repeat' split) <;> simp
@[simp] theorem State.scanOn_heads (s : State) (k : Nat) : (s.scanOn k).heads = s.heads := by
  simp only [State.scanOn]
  (repeat' split) <;> simp
@[simp] theorem State.scanOn_stu (s : State) (k : Nat) : (s.scanOn k).stu = s.stu := by
  simp only [State.scanOn]
  (repeat' split) <;> simp
@[simp] theorem State.scanOn_psc (s : State) (k : Nat) : (s.scanOn k).psc = s.psc := by
  simp only [State.scanOn]
  (repeat' split) <;> simp
@[simp] theorem State.scanOn_pending (s : State) (k : Nat) : (s.scanOn k).pending = s.pending := by
  simp only [State.scanOn]
  (repeat' split) <;> simp
@[simp] theorem State.startScan_rs (s : State) : s.startScan.rs = s.rs := by
  simp only [State.startScan]
  (repeat' split) <;> simp
@[simp] theorem State.startScan_heads (s : State) : s.startScan.heads = s.heads := by
  simp only [State.startScan]
  (repeat' split) <;> simp
@[simp] theorem State.startScan_stu (s : State) : s.startScan.stu = s.stu := by
  simp only [State.startScan]
  (repeat' split) <;> simp
@[simp] theorem State.startScan_psc (s : State) : s.startScan.psc = s.psc := by
  simp only [State.startScan]
  (repeat' split) <;> simp
@[simp] theorem State.startScan_pending (s : State) : s.startScan.pending = s.pending := by
  simp only [State.startScan]
  (repeat' split) <;> simp
@[simp] theorem State.issueHeldScan_cmc (s : State) : s.issueHeldScan.cmc = s.cmc := by
  simp only [State.issueHeldScan]
  (repeat' split) <;> simp
@[simp] theorem State.issueHeldScan_rs (s : State) : s.issueHeldScan.rs = s.rs := by
  simp only [State.issueHeldScan]
  (repeat' split) <;> simp
@[simp] theorem State.issueHeldScan_heads (s : State) : s.issueHeldScan.heads = s.heads := by
  simp only [State.issueHeldScan]
  (repeat' split) <;> simp
@[simp] theorem State.issueHeldScan_stu (s : State) : s.issueHeldScan.stu = s.stu := by
  simp only [State.issueHeldScan]
  (repeat' split) <;> simp
@[simp] theorem State.issueHeldScan_psc (s : State) : s.issueHeldScan.psc = s.psc := by
  simp only [State.issueHeldScan]
  (repeat' split) <;> simp
@[simp] theorem State.issueHeldScan_rm (s : State) : s.issueHeldScan.rm = s.rm := by
  simp only [State.issueHeldScan]
  (repeat' split) <;> simp
@[simp] theorem State.issueHeldScan_pnc (s : State) : s.issueHeldScan.pnc = s.pnc := by
  simp only [State.issueHeldScan]
  (repeat' split) <;> simp
@[simp] theorem State.issueHeldScan_link (s : State) : s.issueHeldScan.link = s.link := by
  simp only [State.issueHeldScan]
  (repeat' split) <;> simp
@[simp] theorem State.issueHeldScan_pending (s : State) : s.issueHeldScan.pending = s.pending := by
  simp only [State.issueHeldScan]
  (repeat' split) <;> simp
@[simp] theorem State.issueSetTemp_cmc (s : State) (t : Nat) : (s.issueSetTemp t).cmc = s.cmc := by
  simp only [State.issueSetTemp]
  simp
@[simp] theorem State.issueSetTemp_rs (s : State) (t : Nat) : (s.issueSetTemp t).rs = s.rs := by
  simp only [State.issueSetTemp]
  simp
@[simp] theorem State.issueSetTemp_heads (s : State) (t : Nat) : (s.issueSetTemp t).heads = s.heads := by
  simp only [State.issueSetTemp]
  simp
@[simp] theorem State.issueSetTemp_stu (s : State) (t : Nat) : (s.issueSetTemp t).stu = s.stu := by
  simp only [State.issueSetTemp]
  simp
@[simp] theorem State.issueSetTemp_psc (s : State) (t : Nat) : (s.issueSetTemp t).psc = s.psc := by
  simp only [State.issueSetTemp]
  simp
@[simp] theorem State.issueSetTemp_rm (s : State) (t : Nat) : (s.issueSetTemp t).rm = s.rm := by
  simp only [State.issueSetTemp]
  simp
@[simp] theorem State.issueSetTemp_pnc (s : State) (t : Nat) : (s.issueSetTemp t).pnc = s.pnc := by
  simp only [State.issueSetTemp]
  simp
@[simp] theorem State.issueSetTemp_link (s : State) (t : Nat) : (s.issueSetTemp t).link = s.link := by
  simp only [State.issueSetTemp]
  simp
@[simp] theorem State.issueSetTemp_pending (s : State) (t : Nat) : (s.issueSetTemp t).pending = s.pending := by
  simp only [State.issueSetTemp]
  simp
@[simp] theorem State.sendSetTemp_cmc (s : State) : s.sendSetTemp.cmc = s.cmc := by
  simp only [State.sendSetTemp]
  (repeat' split) <;> simp
@[simp] theorem State.sendSetTemp_rs (s : State) : s.sendSetTemp.rs = s.rs := by
  simp only [State.sendSetTemp]
  (repeat' split) <;> simp
@[simp] theorem State.sendSetTemp_heads (s : State) : s.sendSetTemp.heads = s.heads := by
  simp only [State.sendSetTemp]
  (repeat' split) <;> simp
@[simp] theorem State.sendSetTemp_stu (s : State) : s.sendSetTemp.stu = s.stu := by
  simp only [State.sendSetTemp]
  (repeat' split) <;> simp
@[simp] theorem State.sendSetTemp_psc (s : State) : s.sendSetTemp.psc = s.psc := by
  simp only [State.sendSetTemp]
  (repeat' split) <;> simp
@[simp] theorem State.sendSetTemp_rm (s : State) : s.sendSetTemp.rm = s.rm := by
  simp only [State.sendSetTemp]
  (repeat' split) <;> simp
@[simp] theorem State.sendSetTemp_pnc (s : State) : s.sendSetTemp.pnc = s.pnc := by
  simp only [State.sendSetTemp]
  (repeat' split) <;> simp
@[simp] theorem State.sendSetTemp_link (s : State) : s.sendSetTemp.link = s.link := by
  simp only [State.sendSetTemp]
  (repeat' split) <;> simp
@[simp] theorem State.sendSetTemp_pending (s : State) : s.sendSetTemp.pending = s.pending := by
  simp only [State.sendSetTemp]
  (repeat' split) <;> simp
@[simp] theorem State.tempReport_rs (s : State) (t : Nat) : (s.tempReport t).rs = s.rs := by
  simp only [State.tempReport]
  (repeat' split) <;> simp
@[simp] theorem State.tempReport_stu (s : State) (t : Nat) : (s.tempReport t).stu = s.stu := by
  simp only [State.tempReport]
  (repeat' split) <;> simp
@[simp] theorem State.tempReport_dlc (s : State) (t : Nat) : (s.tempReport t).dlc = s.dlc := by
  simp only [State.tempReport]
  (repeat' split) <;> simp
@[simp] theorem State.tempReport_psc (s : State) (t : Nat) : (s.tempReport t).psc = s.psc := by
  simp only [State.tempReport]
  (repeat' split) <;> simp
@[simp] theorem State.tempReport_pending (s : State) (t : Nat) : (s.tempReport t).pending = s.pending := by
  simp only [State.tempReport]
  (repeat' split) <;> simp
@[simp] theorem State.trackConfigTaken_rs (s : State) : s.trackConfigTaken.rs = s.rs := by
  simp only [State.trackConfigTaken]
  simp
@[simp] theorem State.trackConfigTaken_stu (s : State) : s.trackConfigTaken.stu = s.stu := by
  simp only [State.trackConfigTaken]
  simp
@[simp] theorem State.trackConfigTaken_psc (s : State) : s.trackConfigTaken.psc = s.psc := by
  simp only [State.trackConfigTaken]
  simp
@[simp] theorem State.trackConfigTaken_rm (s : State) : s.trackConfigTaken.rm = s.rm := by
  simp only [State.trackConfigTaken]
  simp
@[simp] theorem State.trackConfigTaken_pending (s : State) : s.trackConfigTaken.pending = s.pending := by
  simp only [State.trackConfigTaken]
  simp
@[simp] theorem State.leaveHaltScan_rs (s : State) : s.leaveHaltScan.rs = s.rs := by
  simp only [State.leaveHaltScan]
  (repeat' split) <;> simp
@[simp] theorem State.leaveHaltScan_heads (s : State) : s.leaveHaltScan.heads = s.heads := by
  simp only [State.leaveHaltScan]
  (repeat' split) <;> simp
@[simp] theorem State.leaveHaltScan_stu (s : State) : s.leaveHaltScan.stu = s.stu := by
  simp only [State.leaveHaltScan]
  (repeat' split) <;> simp
@[simp] theorem State.leaveHaltScan_psc (s : State) : s.leaveHaltScan.psc = s.psc := by
  simp only [State.leaveHaltScan]
  (repeat' split) <;> simp
@[simp] theorem State.leaveHaltScan_pending (s : State) : s.leaveHaltScan.pending = s.pending := by
  simp only [State.leaveHaltScan]
  (repeat' split) <;> simp
@[simp] theorem State.tellTrack_rs (s : State) (old new : Mode) : (s.tellTrack old new).rs = s.rs := by
  simp only [State.tellTrack]
  (repeat' split) <;> simp
@[simp] theorem State.tellTrack_heads (s : State) (old new : Mode) : (s.tellTrack old new).heads = s.heads := by
  simp only [State.tellTrack]
  (repeat' split) <;> simp
@[simp] theorem State.tellTrack_stu (s : State) (old new : Mode) : (s.tellTrack old new).stu = s.stu := by
  simp only [State.tellTrack]
  (repeat' split) <;> simp
@[simp] theorem State.tellTrack_psc (s : State) (old new : Mode) : (s.tellTrack old new).psc = s.psc := by
  simp only [State.tellTrack]
  (repeat' split) <;> simp
@[simp] theorem State.tellTrack_pending (s : State) (old new : Mode) : (s.tellTrack old new).pending = s.pending := by
  simp only [State.tellTrack]
  (repeat' split) <;> simp
@[simp] theorem State.tellHead_cmc (s : State) (h : HeadId) : (s.tellHead h).cmc = s.cmc := by
  simp only [State.tellHead]
  simp
@[simp] theorem State.tellHead_rs (s : State) (h : HeadId) : (s.tellHead h).rs = s.rs := by
  simp only [State.tellHead]
  simp
@[simp] theorem State.tellHead_trc (s : State) (h : HeadId) : (s.tellHead h).trc = s.trc := by
  simp only [State.tellHead]
  simp
@[simp] theorem State.tellHead_dlc (s : State) (h : HeadId) : (s.tellHead h).dlc = s.dlc := by
  simp only [State.tellHead]
  simp
@[simp] theorem State.tellHead_psc (s : State) (h : HeadId) : (s.tellHead h).psc = s.psc := by
  simp only [State.tellHead]
  simp
@[simp] theorem State.tellHead_rm (s : State) (h : HeadId) : (s.tellHead h).rm = s.rm := by
  simp only [State.tellHead]
  simp
@[simp] theorem State.tellHead_pnc (s : State) (h : HeadId) : (s.tellHead h).pnc = s.pnc := by
  simp only [State.tellHead]
  simp
@[simp] theorem State.tellHead_link (s : State) (h : HeadId) : (s.tellHead h).link = s.link := by
  simp only [State.tellHead]
  simp
@[simp] theorem State.tellHead_pending (s : State) (h : HeadId) : (s.tellHead h).pending = s.pending := by
  simp only [State.tellHead]
  simp
@[simp] theorem State.pullsDone_cmc (s : State) : s.pullsDone.cmc = s.cmc := by
  simp only [State.pullsDone]
  simp
@[simp] theorem State.pullsDone_rs (s : State) : s.pullsDone.rs = s.rs := by
  simp only [State.pullsDone]
  simp
@[simp] theorem State.pullsDone_heads (s : State) : s.pullsDone.heads = s.heads := by
  simp only [State.pullsDone]
  simp
@[simp] theorem State.pullsDone_stu (s : State) : s.pullsDone.stu = s.stu := by
  simp only [State.pullsDone]
  simp
@[simp] theorem State.pullsDone_dlc (s : State) : s.pullsDone.dlc = s.dlc := by
  simp only [State.pullsDone]
  simp
@[simp] theorem State.pullsDone_rm (s : State) : s.pullsDone.rm = s.rm := by
  simp only [State.pullsDone]
  simp
@[simp] theorem State.pullsDone_pnc (s : State) : s.pullsDone.pnc = s.pnc := by
  simp only [State.pullsDone]
  simp
@[simp] theorem State.pullsDone_link (s : State) : s.pullsDone.link = s.link := by
  simp only [State.pullsDone]
  simp
@[simp] theorem State.pullsDone_pending (s : State) : s.pullsDone.pending = s.pending := by
  simp only [State.pullsDone]
  simp
@[simp] theorem State.advancePull_cmc (s : State) : s.advancePull.cmc = s.cmc := by
  simp only [State.advancePull]
  simp
@[simp] theorem State.advancePull_rs (s : State) : s.advancePull.rs = s.rs := by
  simp only [State.advancePull]
  simp
@[simp] theorem State.advancePull_heads (s : State) : s.advancePull.heads = s.heads := by
  simp only [State.advancePull]
  simp
@[simp] theorem State.advancePull_stu (s : State) : s.advancePull.stu = s.stu := by
  simp only [State.advancePull]
  simp
@[simp] theorem State.advancePull_trc (s : State) : s.advancePull.trc = s.trc := by
  simp only [State.advancePull]
  simp
@[simp] theorem State.advancePull_dlc (s : State) : s.advancePull.dlc = s.dlc := by
  simp only [State.advancePull]
  simp
@[simp] theorem State.advancePull_rm (s : State) : s.advancePull.rm = s.rm := by
  simp only [State.advancePull]
  simp
@[simp] theorem State.advancePull_pnc (s : State) : s.advancePull.pnc = s.pnc := by
  simp only [State.advancePull]
  simp
@[simp] theorem State.advancePull_link (s : State) : s.advancePull.link = s.link := by
  simp only [State.advancePull]
  simp
@[simp] theorem State.advancePull_pending (s : State) : s.advancePull.pending = s.pending := by
  simp only [State.advancePull]
  simp
@[simp] theorem State.useOutSlot_rs (s : State) (mag slot : Nat) (x : OutSlot) : (s.useOutSlot mag slot x).rs = s.rs := by
  simp only [State.useOutSlot]
  (repeat' split) <;> simp
@[simp] theorem State.useOutSlot_heads (s : State) (mag slot : Nat) (x : OutSlot) : (s.useOutSlot mag slot x).heads = s.heads := by
  simp only [State.useOutSlot]
  (repeat' split) <;> simp
@[simp] theorem State.useOutSlot_stu (s : State) (mag slot : Nat) (x : OutSlot) : (s.useOutSlot mag slot x).stu = s.stu := by
  simp only [State.useOutSlot]
  (repeat' split) <;> simp
@[simp] theorem State.useOutSlot_dlc (s : State) (mag slot : Nat) (x : OutSlot) : (s.useOutSlot mag slot x).dlc = s.dlc := by
  simp only [State.useOutSlot]
  (repeat' split) <;> simp
@[simp] theorem State.useOutSlot_psc (s : State) (mag slot : Nat) (x : OutSlot) : (s.useOutSlot mag slot x).psc = s.psc := by
  simp only [State.useOutSlot]
  (repeat' split) <;> simp
@[simp] theorem State.useOutSlot_pnc (s : State) (mag slot : Nat) (x : OutSlot) : (s.useOutSlot mag slot x).pnc = s.pnc := by
  simp only [State.useOutSlot]
  (repeat' split) <;> simp
@[simp] theorem State.useOutSlot_pending (s : State) (mag slot : Nat) (x : OutSlot) : (s.useOutSlot mag slot x).pending = s.pending := by
  simp only [State.useOutSlot]
  (repeat' split) <;> simp
@[simp] theorem State.issueStep_cmc (s : State) (step : SeqState) : (s.issueStep step).cmc = s.cmc := by
  simp only [State.issueStep]
  simp
@[simp] theorem State.issueStep_rs (s : State) (step : SeqState) : (s.issueStep step).rs = s.rs := by
  simp only [State.issueStep]
  simp
@[simp] theorem State.issueStep_heads (s : State) (step : SeqState) : (s.issueStep step).heads = s.heads := by
  simp only [State.issueStep]
  simp
@[simp] theorem State.issueStep_stu (s : State) (step : SeqState) : (s.issueStep step).stu = s.stu := by
  simp only [State.issueStep]
  simp
@[simp] theorem State.issueStep_psc (s : State) (step : SeqState) : (s.issueStep step).psc = s.psc := by
  simp only [State.issueStep]
  simp
@[simp] theorem State.issueStep_rm (s : State) (step : SeqState) : (s.issueStep step).rm = s.rm := by
  simp only [State.issueStep]
  simp
@[simp] theorem State.issueStep_pnc (s : State) (step : SeqState) : (s.issueStep step).pnc = s.pnc := by
  simp only [State.issueStep]
  simp
@[simp] theorem State.issueStep_link (s : State) (step : SeqState) : (s.issueStep step).link = s.link := by
  simp only [State.issueStep]
  simp
@[simp] theorem State.issueStep_pending (s : State) (step : SeqState) : (s.issueStep step).pending = s.pending := by
  simp only [State.issueStep]
  simp
@[simp] theorem State.recordFault_cmc (s : State) (d : Drive) (kind : FaultKind) (code : Byte) : (s.recordFault d kind code).cmc = s.cmc := by
  simp only [State.recordFault]
  simp
@[simp] theorem State.recordFault_rs (s : State) (d : Drive) (kind : FaultKind) (code : Byte) : (s.recordFault d kind code).rs = s.rs := by
  simp only [State.recordFault]
  simp
@[simp] theorem State.recordFault_heads (s : State) (d : Drive) (kind : FaultKind) (code : Byte) : (s.recordFault d kind code).heads = s.heads := by
  simp only [State.recordFault]
  simp
@[simp] theorem State.recordFault_stu (s : State) (d : Drive) (kind : FaultKind) (code : Byte) : (s.recordFault d kind code).stu = s.stu := by
  simp only [State.recordFault]
  simp
@[simp] theorem State.recordFault_trc (s : State) (d : Drive) (kind : FaultKind) (code : Byte) : (s.recordFault d kind code).trc = s.trc := by
  simp only [State.recordFault]
  simp
@[simp] theorem State.recordFault_psc (s : State) (d : Drive) (kind : FaultKind) (code : Byte) : (s.recordFault d kind code).psc = s.psc := by
  simp only [State.recordFault]
  simp
@[simp] theorem State.recordFault_rm (s : State) (d : Drive) (kind : FaultKind) (code : Byte) : (s.recordFault d kind code).rm = s.rm := by
  simp only [State.recordFault]
  simp
@[simp] theorem State.recordFault_pnc (s : State) (d : Drive) (kind : FaultKind) (code : Byte) : (s.recordFault d kind code).pnc = s.pnc := by
  simp only [State.recordFault]
  simp
@[simp] theorem State.recordFault_link (s : State) (d : Drive) (kind : FaultKind) (code : Byte) : (s.recordFault d kind code).link = s.link := by
  simp only [State.recordFault]
  simp
@[simp] theorem State.recordFault_pending (s : State) (d : Drive) (kind : FaultKind) (code : Byte) : (s.recordFault d kind code).pending = s.pending := by
  simp only [State.recordFault]
  simp
@[simp] theorem State.driveFaultEvent_rs (s : State) (d : Drive) (kind : FaultKind) (op code : Byte) : (s.driveFaultEvent d kind op code).rs = s.rs := by
  simp only [State.driveFaultEvent]
  simp
@[simp] theorem State.driveFaultEvent_heads (s : State) (d : Drive) (kind : FaultKind) (op code : Byte) : (s.driveFaultEvent d kind op code).heads = s.heads := by
  simp only [State.driveFaultEvent]
  simp
@[simp] theorem State.driveFaultEvent_stu (s : State) (d : Drive) (kind : FaultKind) (op code : Byte) : (s.driveFaultEvent d kind op code).stu = s.stu := by
  simp only [State.driveFaultEvent]
  simp
@[simp] theorem State.driveFaultEvent_trc (s : State) (d : Drive) (kind : FaultKind) (op code : Byte) : (s.driveFaultEvent d kind op code).trc = s.trc := by
  simp only [State.driveFaultEvent]
  simp
@[simp] theorem State.driveFaultEvent_dlc (s : State) (d : Drive) (kind : FaultKind) (op code : Byte) : (s.driveFaultEvent d kind op code).dlc = s.dlc := by
  simp only [State.driveFaultEvent]
  simp
@[simp] theorem State.driveFaultEvent_psc (s : State) (d : Drive) (kind : FaultKind) (op code : Byte) : (s.driveFaultEvent d kind op code).psc = s.psc := by
  simp only [State.driveFaultEvent]
  simp
@[simp] theorem State.driveFaultEvent_pnc (s : State) (d : Drive) (kind : FaultKind) (op code : Byte) : (s.driveFaultEvent d kind op code).pnc = s.pnc := by
  simp only [State.driveFaultEvent]
  simp
@[simp] theorem State.driveFaultEvent_pending (s : State) (d : Drive) (kind : FaultKind) (op code : Byte) : (s.driveFaultEvent d kind op code).pending = s.pending := by
  simp only [State.driveFaultEvent]
  simp
@[simp] theorem State.setLine_cmc (s : State) (l : LineState) : (s.setLine l).cmc = s.cmc := by
  simp only [State.setLine]
  simp
@[simp] theorem State.setLine_rs (s : State) (l : LineState) : (s.setLine l).rs = s.rs := by
  simp only [State.setLine]
  simp
@[simp] theorem State.setLine_heads (s : State) (l : LineState) : (s.setLine l).heads = s.heads := by
  simp only [State.setLine]
  simp
@[simp] theorem State.setLine_stu (s : State) (l : LineState) : (s.setLine l).stu = s.stu := by
  simp only [State.setLine]
  simp
@[simp] theorem State.setLine_trc (s : State) (l : LineState) : (s.setLine l).trc = s.trc := by
  simp only [State.setLine]
  simp
@[simp] theorem State.setLine_psc (s : State) (l : LineState) : (s.setLine l).psc = s.psc := by
  simp only [State.setLine]
  simp
@[simp] theorem State.setLine_rm (s : State) (l : LineState) : (s.setLine l).rm = s.rm := by
  simp only [State.setLine]
  simp
@[simp] theorem State.setLine_pnc (s : State) (l : LineState) : (s.setLine l).pnc = s.pnc := by
  simp only [State.setLine]
  simp
@[simp] theorem State.setLine_link (s : State) (l : LineState) : (s.setLine l).link = s.link := by
  simp only [State.setLine]
  simp
@[simp] theorem State.setLine_pending (s : State) (l : LineState) : (s.setLine l).pending = s.pending := by
  simp only [State.setLine]
  simp
@[simp] theorem State.accepted_cmc (s : State) (d : Drive) : (s.accepted d).cmc = s.cmc := by
  simp only [State.accepted]
  simp
@[simp] theorem State.accepted_rs (s : State) (d : Drive) : (s.accepted d).rs = s.rs := by
  simp only [State.accepted]
  simp
@[simp] theorem State.accepted_heads (s : State) (d : Drive) : (s.accepted d).heads = s.heads := by
  simp only [State.accepted]
  simp
@[simp] theorem State.accepted_stu (s : State) (d : Drive) : (s.accepted d).stu = s.stu := by
  simp only [State.accepted]
  simp
@[simp] theorem State.accepted_trc (s : State) (d : Drive) : (s.accepted d).trc = s.trc := by
  simp only [State.accepted]
  simp
@[simp] theorem State.accepted_psc (s : State) (d : Drive) : (s.accepted d).psc = s.psc := by
  simp only [State.accepted]
  simp
@[simp] theorem State.accepted_rm (s : State) (d : Drive) : (s.accepted d).rm = s.rm := by
  simp only [State.accepted]
  simp
@[simp] theorem State.accepted_pnc (s : State) (d : Drive) : (s.accepted d).pnc = s.pnc := by
  simp only [State.accepted]
  simp
@[simp] theorem State.accepted_link (s : State) (d : Drive) : (s.accepted d).link = s.link := by
  simp only [State.accepted]
  simp
@[simp] theorem State.accepted_pending (s : State) (d : Drive) : (s.accepted d).pending = s.pending := by
  simp only [State.accepted]
  simp
@[simp] theorem State.closePoll_cmc (s : State) (c : Byte) : (s.closePoll c).cmc = s.cmc := by
  simp only [State.closePoll]
  simp
@[simp] theorem State.closePoll_rs (s : State) (c : Byte) : (s.closePoll c).rs = s.rs := by
  simp only [State.closePoll]
  simp
@[simp] theorem State.closePoll_heads (s : State) (c : Byte) : (s.closePoll c).heads = s.heads := by
  simp only [State.closePoll]
  simp
@[simp] theorem State.closePoll_stu (s : State) (c : Byte) : (s.closePoll c).stu = s.stu := by
  simp only [State.closePoll]
  simp
@[simp] theorem State.closePoll_trc (s : State) (c : Byte) : (s.closePoll c).trc = s.trc := by
  simp only [State.closePoll]
  simp
@[simp] theorem State.closePoll_psc (s : State) (c : Byte) : (s.closePoll c).psc = s.psc := by
  simp only [State.closePoll]
  simp
@[simp] theorem State.closePoll_rm (s : State) (c : Byte) : (s.closePoll c).rm = s.rm := by
  simp only [State.closePoll]
  simp
@[simp] theorem State.closePoll_pnc (s : State) (c : Byte) : (s.closePoll c).pnc = s.pnc := by
  simp only [State.closePoll]
  simp
@[simp] theorem State.closePoll_link (s : State) (c : Byte) : (s.closePoll c).link = s.link := by
  simp only [State.closePoll]
  simp
@[simp] theorem State.closePoll_pending (s : State) (c : Byte) : (s.closePoll c).pending = s.pending := by
  simp only [State.closePoll]
  simp
@[simp] theorem State.badStatus_rs (s : State) : s.badStatus.rs = s.rs := by
  simp only [State.badStatus]
  simp
@[simp] theorem State.badStatus_heads (s : State) : s.badStatus.heads = s.heads := by
  simp only [State.badStatus]
  simp
@[simp] theorem State.badStatus_stu (s : State) : s.badStatus.stu = s.stu := by
  simp only [State.badStatus]
  simp
@[simp] theorem State.badStatus_trc (s : State) : s.badStatus.trc = s.trc := by
  simp only [State.badStatus]
  simp
@[simp] theorem State.badStatus_psc (s : State) : s.badStatus.psc = s.psc := by
  simp only [State.badStatus]
  simp
@[simp] theorem State.badStatus_rm (s : State) : s.badStatus.rm = s.rm := by
  simp only [State.badStatus]
  simp
@[simp] theorem State.badStatus_pnc (s : State) : s.badStatus.pnc = s.pnc := by
  simp only [State.badStatus]
  simp
@[simp] theorem State.badStatus_pending (s : State) : s.badStatus.pending = s.pending := by
  simp only [State.badStatus]
  simp

end Sys2Proof.Machine
end

