-- ==== Sys2Proof/Laws/Drives.lean ====
section
/-! SUPPORT. The last character of a status frame: what a good frame does, once for all kinds (R125, R126). -/

namespace Sys2Proof.Machine

open Sys2Proof

theorem byteSum_snoc (bs : List Byte) (b : Byte) : byteSum (bs ++ [b]) = byteSum bs + b := by
  simp [byteSum]

/-- A frame's kind, op and length fit the drive (R120, R125). -/
def Fits (x : DriveState) (d : Drive) (kind op : Byte) (results : List Byte) : Prop :=
  (kind = 1 ∧ resultLength op = some results.length ∨ kind = 2 ∧ results.length = 1) ∧
      (x.stage = .outstanding → x.opCode = op) ∨
    kind = 3 ∧ reportLength d op = some results.length

/-- The checksum as the last character: a frame that fits is confirmed and acted on. -/
theorem statusEnd_good (d : Drive) (kind op : Byte) (results : List Byte) (s : State)
    (line : s.dlc.line = .poll d (statusHead kind op results)) (short : results.length < 256)
    (fits : Fits (s.dlc.drives.get d) d kind op results) :
    exec (statusEnd kind op results) s =
      .next ((s.closePoll 0x33).goodStatusTaken d kind op results).txChoose := by
  have n : (byte results.length).toNat = results.length := by
    simp [byte, BitVec.toNat_ofNat]; omega
  generalize hc : (0 - byteSum (statusHead kind op results) : Byte) = c
  have wide : (c.setWidth 9).msb = false := by
    simp [BitVec.msb_setWidth, BitVec.getLsbD_of_ge]
  have narrow : (c.setWidth 9).setWidth 8 = c := by
    ext i hi; simp
  have sum : byteSum (statusHead kind op results ++ [c]) = 0 := by
    rw [byteSum_snoc, ← hc]; generalize byteSum (statusHead kind op results) = x; bv_omega
  have good : goodStatus d (s.dlc.drives.get d) (statusHead kind op results ++ [c]) = true := by
    unfold goodStatus
    rw [show statusHead kind op results ++ [c] = kind :: op :: byte results.length :: (results ++ [c]) from rfl] at sum ⊢
    simp only [sum, n]
    rcases fits with ⟨⟨rfl, h⟩ | ⟨rfl, h⟩, k⟩ | ⟨rfl, h⟩
    · simp only [goodStatus.opFits, h]; by_cases q : (s.dlc.drives.get d).stage = .outstanding <;> simp_all
    · simp only [goodStatus.opFits, h]; by_cases q : (s.dlc.drives.get d).stage = .outstanding <;> simp_all
    · simp_all
  show execStatusFrameCharacter _ s = _
  unfold execStatusFrameCharacter
  rw [line, hc]
  simp only [State.statusChar, wide, narrow, good, ran, if_true]
  have len : statusLength (statusHead kind op results ++ [c]) = some (statusHead kind op results ++ [c]).length := by
    simp [statusLength, statusHead, n]
  rw [if_pos len]
  simp [statusHead, List.dropLast_append_of_ne_nil]

/-- DONE of the OUTSTANDING operation: the stage is NONE and the completion reaches the issuer (R123, R126). -/
theorem statusEnd_done (d : Drive) (op : DriveOp) (results : List Byte) (s : State) (held : s.Outstanding d op)
    (line : s.dlc.line = .poll d (statusHead 1 op.code results)) (fits : resultLength op.code = some results.length) :
    exec (statusEnd 1 op.code results) s = .next ((s.closePoll 0x33).endOperation d (.done results)).txChoose := by
  have short : results.length < 256 := by
    unfold resultLength at fits; (repeat' split at fits) <;> simp_all <;> omega
  have code : (s.dlc.drives.get d).opCode = op.code := by simp only [DriveState.opCode, held.2]; rfl
  have stage : ((s.closePoll 0x33).dlc.drives.get d).stage = .outstanding := held.1
  rw [statusEnd_good d 1 op.code results s line short (.inl ⟨.inl ⟨rfl, fits⟩, fun _ => code⟩)]
  unfold State.goodStatusTaken
  rw [if_neg (by decide), if_pos stage, if_pos rfl]

/-- FAULT of the OUTSTANDING operation (R123, R126, R129). -/
theorem statusEnd_fault (d : Drive) (op : DriveOp) (code : Byte) (s : State) (held : s.Outstanding d op)
    (line : s.dlc.line = .poll d (statusHead 2 op.code [code])) :
    exec (statusEnd 2 op.code [code]) s = .next ((s.closePoll 0x33).failOperation d .fault code).txChoose := by
  have own : (s.dlc.drives.get d).opCode = op.code := by simp only [DriveState.opCode, held.2]; rfl
  have stage : ((s.closePoll 0x33).dlc.drives.get d).stage = .outstanding := held.1
  rw [statusEnd_good d 2 op.code [code] s line (by simp) (.inl ⟨.inr ⟨rfl, rfl⟩, fun _ => own⟩)]
  unfold State.goodStatusTaken
  rw [if_neg (by decide), if_pos stage, if_neg (by decide)]
  rfl

end Sys2Proof.Machine
end

