-- ==== Sys2Proof/Laws/Effects.lean ====
section
/-! SUPPORT. What the shared operations leave behind: the prompt raised or removed, the condition set, the event written, the
record committed. -/

namespace Sys2Proof.Machine

open Sys2Proof

/-! ## Conditions (R189) -/

theorem State.setCondition_set (s : State) (c : Condition) :
    (s.setCondition c).cmc.conditions.getLsbD c.id = true := by
  have id : c.id < 22 := by cases c <;> decide
  have bit : c.bit.getLsbD c.id = true := by cases c <;> decide
  unfold State.setCondition
  split
  · assumption
  · have h : (s.setCmc { s.cmc with conditions := s.cmc.conditions ||| c.bit }).cmc.conditions.getLsbD c.id = true := by
      simp [bit]
    split
    · exact (State.handNotice_grows _ _).keeps _ h
    · exact h

/-! ## Prompts (R171) -/


theorem Pnc.refreshTone_prompts (p : Pnc) : p.refreshTone.prompts = p.prompts := by
  unfold Pnc.refreshTone; (repeat' split) <;> rfl

theorem insertPrompt_mem (p q : Prompt) (l : List Prompt) : q ∈ insertPrompt p l ↔ q = p ∨ q ∈ l := by
  induction l with
  | nil => simp [insertPrompt]
  | cons x xs ih => unfold insertPrompt; split <;> simp [ih, or_left_comm]

theorem State.raiseNote_find (s : State) (kind : PromptKind) (source : Nat) (v : Severity) (arg : Nat) (text : List Byte) :
    ((s.raiseNote kind source v arg text).pnc.findPrompt kind source).isSome = true := by
  unfold State.raiseNote
  split
  · simp_all
  · simp only [State.handNotice_pnc, State.setPnc_pnc, Pnc.findPrompt, Pnc.refreshTone_prompts, List.find?_isSome,
      insertPrompt_mem]
    exact ⟨_, .inl rfl, by simp [Prompt.is]⟩

theorem State.raisePrompt_find (s : State) (kind : PromptKind) (source arg : Nat) :
    ((s.raisePrompt kind source arg).pnc.findPrompt kind source).isSome = true := s.raiseNote_find ..

theorem State.raisePrompt_keeps (s : State) (kind k : PromptKind) (source i arg : Nat)
    (h : (s.pnc.findPrompt k i).isSome = true) : ((s.raisePrompt kind source arg).pnc.findPrompt k i).isSome = true := by
  unfold State.raisePrompt State.raiseNote
  split
  · exact h
  · simp only [State.handNotice_pnc, State.setPnc_pnc, Pnc.findPrompt, Pnc.refreshTone_prompts, List.find?_isSome,
      insertPrompt_mem] at h ⊢
    obtain ⟨x, a, b⟩ := h
    exact ⟨x, .inr a, b⟩

theorem State.removePrompt_find (s : State) (kind : PromptKind) (source : Nat) :
    (s.removePrompt kind source).pnc.findPrompt kind source = none := by
  unfold State.removePrompt
  split
  · assumption
  · simp only [State.handNotice_pnc, State.setPnc_pnc, Pnc.findPrompt, Pnc.refreshTone_prompts, List.find?_eq_none,
      List.mem_filter]
    rintro x ⟨-, h⟩; simpa using h

/-! ## Events and records (R153, R154) -/

theorem State.watermarkRise_records (s : State) (i j : RegionId) :
    ((s.watermarkRise i).rm.get j).records = (s.rm.get j).records := by
  unfold State.watermarkRise
  simp only
  split
  · simp [State.setRegion]; cases i <;> cases j <;> simp
  · rfl

theorem State.writeEvent_last (s : State) (code : EventCode) (source arg : Nat) :
    ∃ lost, (s.writeEvent code source arg).rm.event.records.getLast? =
      some (.event ⟨s.rm.event.nextSerial, s.cmc.cellTime, code, source, arg, lost⟩) := by
  unfold State.writeEvent
  simp only
  split
  · have h := State.watermarkRise_records
      (s.setRegion .event (s.rm.event.append fun n => .event ⟨n, s.cmc.cellTime, code, source, arg, s.rm.event.lost⟩)) .event .event
    simp only [Rm.get] at h
    rw [h]; simp [State.setRegion, Region.append]
  · simp [State.setRegion, Region.append]


theorem State.writeEvent_region (s : State) (code : EventCode) (source arg : Nat) (i : RegionId) (h : i ≠ .event) :
    (s.writeEvent code source arg).rm.get i = s.rm.get i := by
  unfold State.writeEvent State.watermarkRise
  simp only
  (repeat' split) <;> cases i <;> simp_all [State.setRegion]

end Sys2Proof.Machine
end

