-- ==== Sys2Proof/Laws/Operands.lean ====
section
/-! SUPPORT. Numbers and payload fields read back: high byte first, unsigned and two's complement (R2), and the fields of a
load request (R4). -/

namespace Sys2Proof.Machine

open Sys2Proof

@[simp] theorem beBytes_length (n v : Nat) : (beBytes n v).length = n := by
  induction n <;> simp_all [beBytes]

@[simp] theorem intBytes_length (n : Nat) (v : Int) : (intBytes n v).length = n := beBytes_length _ _

theorem beNat_append (xs ys : List Byte) : beNat (xs ++ ys) = beNat xs * 256 ^ ys.length + beNat ys := by
  have key (ys : List Byte) (a : Nat) :
      ys.foldl (fun acc b => acc * 256 + b.toNat) a = a * 256 ^ ys.length + beNat ys := by
    induction ys generalizing a with
    | nil => simp [beNat]
    | cons y ys ih =>
      have h := ih (0 * 256 + y.toNat)
      simp only [beNat, List.foldl_cons, List.length_cons] at h ⊢
      simp only [beNat] at ih
      rw [ih, h, Nat.pow_succ, Nat.zero_mul, Nat.zero_add, Nat.add_mul, Nat.mul_assoc, Nat.mul_comm 256,
        Nat.add_assoc]
  simp only [beNat, List.foldl_append]
  exact key _ _

/-- n bytes give their number back modulo 256^n. -/
theorem beNat_beBytes (n v : Nat) : beNat (beBytes n v) = v % 256 ^ n := by
  induction n with
  | zero => simp [beBytes, beNat, Nat.mod_one]
  | succ n ih =>
    have : beBytes (n + 1) v = [BitVec.ofNat 8 (v / 256 ^ n)] ++ beBytes n v := rfl
    rw [this, beNat_append, ih, beBytes_length]
    have h1 : beNat [BitVec.ofNat 8 (v / 256 ^ n)] = v / 256 ^ n % 256 := by simp [beNat]
    rw [h1, Nat.pow_succ, Nat.mod_mul, Nat.mul_comm, Nat.add_comm]

theorem beNat_beBytes_of_lt (n v : Nat) (h : v < 256 ^ n) : beNat (beBytes n v) = v := by
  rw [beNat_beBytes, Nat.mod_eq_of_lt h]

/-- A two's complement number in range gives itself back. -/
theorem beInt_intBytes (n : Nat) (v : Int) (h : 0 < n) (lo : -(256 ^ n / 2 : Int) ≤ v) (hi : v < (256 ^ n / 2 : Int)) :
    beInt (intBytes n v) = v := by
  obtain ⟨k, hk⟩ : ∃ k : Nat, 256 ^ n = 2 * k := by
    obtain ⟨m, rfl⟩ : ∃ m, n = m + 1 := ⟨n - 1, by omega⟩
    exact ⟨128 * 256 ^ m, by rw [Nat.pow_succ]; omega⟩
  have hk' : ((256 : Int) ^ n) = 2 * (k : Int) := by
    have e := congrArg (Int.ofNat) hk
    simpa only [Int.ofNat_eq_natCast, Int.natCast_pow, Int.natCast_mul, Int.cast_ofNat_Int] using e
  rw [hk'] at lo hi
  have hv : (v % ((256 ^ n : Nat) : Int)) = if 0 ≤ v then v else v + 2 * (k : Int) := by
    rw [hk]
    split
    · exact Int.emod_eq_of_lt (by omega) (by omega)
    · rw [← Int.add_emod_right]
      rw [Int.emod_eq_of_lt (by omega) (by omega)]
      omega
  have hm : ((v % ((256 ^ n : Nat) : Int)).toNat) < 256 ^ n := by rw [hv, hk]; split <;> omega
  unfold beInt
  rw [intBytes_length, intBytes, beNat_beBytes_of_lt _ _ hm, hv, hk]
  split <;> split <;> omega

/-! ## Fields (R4) -/

/-- A field of a payload holds every value of its range. -/
def FieldSpec.holds (f : FieldSpec) : Prop :=
  0 < f.bytes ∧
    (if f.signed then -(256 ^ f.bytes / 2 : Int) ≤ f.lo ∧ f.hi < (256 ^ f.bytes / 2 : Int)
     else 0 ≤ f.lo ∧ f.hi < (256 ^ f.bytes : Int))

theorem FieldSpec.readBack (f : FieldSpec) (v : Int) (h : f.holds) (k : f.admits v = true) :
    (if f.signed then beInt (intBytes f.bytes v) else (beNat (intBytes f.bytes v) : Int)) = v := by
  simp only [FieldSpec.admits, Bool.and_eq_true, decide_eq_true_eq] at k
  obtain ⟨h0, h⟩ := h
  split
  · rename_i s
    rw [if_pos s] at h
    exact beInt_intBytes _ _ h0 (by omega) (by omega)
  · rename_i s
    rw [if_neg s] at h
    have h1 : (0 : Int) ≤ v := by omega
    have h2 : v < ((256 ^ f.bytes : Nat) : Int) := by
      rw [Int.natCast_pow]
      exact Int.lt_of_le_of_lt k.1.2 h.2
    unfold intBytes
    rw [Int.emod_eq_of_lt h1 h2, beNat_beBytes_of_lt _ _ (by omega)]
    omega

/-- Every value lies in its field's range. -/
def admitted : List FieldSpec → List Int → Bool
  | [], [] => true
  | f :: fs, v :: vs => f.admits v && admitted fs vs
  | _, _ => false

/-- The fields of admitted values read back as those values, whatever bytes follow. -/
theorem fieldValues_fieldBytes (fs : List FieldSpec) (vs : List Int) (rest : List Byte) (h : ∀ f ∈ fs, f.holds)
    (k : admitted fs vs = true) : fieldValues fs (fieldBytes fs vs ++ rest) = vs := by
  induction fs generalizing vs with
  | nil => cases vs <;> simp [admitted, fieldValues] at k ⊢
  | cons f fs ih =>
    cases vs with
    | nil => simp [admitted] at k
    | cons v vs =>
      simp only [admitted, Bool.and_eq_true] at k
      have hl : (intBytes f.bytes v).length = f.bytes := intBytes_length _ _
      simp only [fieldValues, fieldBytes, List.append_assoc]
      rw [List.take_left' hl, List.drop_left' hl, ih vs (fun g hg => h g (.tail _ hg)) k.2,
        f.readBack v (h f (.head _)) k.1]

/-- Admitted values have no bad field (R4, stage 4). -/
theorem firstBad_admitted (fs : List FieldSpec) (vs : List Int) (n : Nat) (k : admitted fs vs = true) :
    firstBad fs vs n = none := by
  induction fs generalizing vs n with
  | nil => cases vs <;> rfl
  | cons f fs ih =>
    cases vs with
    | nil => rfl
    | cons v vs =>
      simp only [admitted, Bool.and_eq_true] at k
      simp [firstBad, k.1, ih vs (n + 1) k.2]

theorem fieldsLength_cons (f : FieldSpec) (fs : List FieldSpec) : fieldsLength (f :: fs) = f.bytes + fieldsLength fs := by
  have key (fs : List FieldSpec) (a : Nat) : fs.foldl (fun n f => n + f.bytes) a = a + fieldsLength fs := by
    induction fs generalizing a with
    | nil => simp [fieldsLength]
    | cons g gs ih => simp only [fieldsLength, List.foldl_cons]; rw [ih, ih (0 + g.bytes)]; omega
  simp only [fieldsLength, List.foldl_cons]
  rw [key]
  simp [fieldsLength]

theorem fieldBytes_length (fs : List FieldSpec) (vs : List Int) (k : admitted fs vs = true) :
    (fieldBytes fs vs).length = fieldsLength fs := by
  induction fs generalizing vs with
  | nil => cases vs <;> simp_all [admitted, fieldBytes, fieldsLength]
  | cons f fs ih =>
    cases vs with
    | nil => simp [admitted] at k
    | cons v vs =>
      simp only [admitted, Bool.and_eq_true] at k
      simp [fieldBytes, fieldsLength_cons, ih vs k.2]

end Sys2Proof.Machine
end

