-- ==== Sys2Proof/Laws/Replies.lean ====
section
/-! SUPPORT. Request commands and their replies: exec of a request in one equation, what giving a reply leaves alone, and a
load request whose fields are all admitted. -/

namespace Sys2Proof.Machine

/-- A request command offers its frame to the receiver's queue, or faults on a payload no frame can carry. -/
theorem exec_request (c : Instr) (f : Frame) (s : State) (h : c.frame = some f) :
    exec c s = if f.payload.length ≤ 248 then .next (s.offerFrame f) else .fault .payloadTooLong := by
  cases c <;> simp only [Instr.frame, Option.some.injEq, reduceCtorEq] at h <;> subst h <;> first | rfl | skip
  simp [exec, execUnknownCode, request, byte]

/-- A state given a reply answers with it: the reply waits or is being sent. -/
theorem State.answered_answers (s : State) (f : Frame) : (s.answered f).Answers f := by
  by_cases k : (s.link.tx.isSome || s.link.restart == .due) = true
  · have e : s.answered f = s.setLink { s.link with reply := some f } := by
      unfold State.answered State.txChoose; exact if_pos k
    rw [e]; left; rfl
  · have e : s.answered f =
        (s.setLink { s.link with reply := some f }).setLink { s.link with tx := some (.reply f), reply := none } := by
      unfold State.answered State.txChoose; exact if_neg k
    rw [e]; right; rfl

@[simp] theorem State.answered_cmc (s : State) (f : Frame) : (s.answered f).cmc = s.cmc := by simp [State.answered]
@[simp] theorem State.answered_rs (s : State) (f : Frame) : (s.answered f).rs = s.rs := by simp [State.answered]
@[simp] theorem State.answered_heads (s : State) (f : Frame) : (s.answered f).heads = s.heads := by
  simp [State.answered]
@[simp] theorem State.answered_head (s : State) (f : Frame) (h : HeadId) : (s.answered f).head h = s.head h := by
  simp [State.answered]
@[simp] theorem State.answered_stu (s : State) (f : Frame) : (s.answered f).stu = s.stu := by simp [State.answered]
@[simp] theorem State.answered_trc (s : State) (f : Frame) : (s.answered f).trc = s.trc := by simp [State.answered]
@[simp] theorem State.answered_dlc (s : State) (f : Frame) : (s.answered f).dlc = s.dlc := by simp [State.answered]
@[simp] theorem State.answered_psc (s : State) (f : Frame) : (s.answered f).psc = s.psc := by simp [State.answered]
@[simp] theorem State.answered_rm (s : State) (f : Frame) : (s.answered f).rm = s.rm := by simp [State.answered]
@[simp] theorem State.answered_pnc (s : State) (f : Frame) : (s.answered f).pnc = s.pnc := by simp [State.answered]
@[simp] theorem State.answered_pending (s : State) (f : Frame) : (s.answered f).pending = s.pending := by
  simp [State.answered]

/-- One byte of a number is its big-endian form of length one. -/
theorem byte_eq_beBytes (n : Nat) : [byte n] = beBytes 1 n := by simp [beBytes, byte]

/-- A natural number in range has the same bytes unsigned and signed. -/
theorem beBytes_eq_intBytes (k n : Nat) (h : n < 256 ^ k) : beBytes k n = intBytes k (n : Int) := by
  unfold intBytes
  congr 1
  have e : ((n : Int) % ((256 ^ k : Nat) : Int)) = n := Int.emod_eq_of_lt (by omega) (by exact_mod_cast h)
  rw [e]; simp

/-- A load request whose mode allows it, whose fields are all admitted and whose cross check passes writes them (R4). -/
theorem State.load_admitted (s : State) (c : ItemClass) (fs : List FieldSpec) (vs : List Int)
    (cross : List Int → List (Nat × Bool)) (write : State → List Int → State × Payload) (hh : ∀ f ∈ fs, f.holds)
    (ha : admitted fs vs = true) (hr : s.loadRefusal c = none) (hc : crossRefusal (cross vs) = none) :
    s.load c fs (fieldBytes fs vs) cross write = write s vs := by
  have hv : fieldValues fs (fieldBytes fs vs) = vs := by simpa using fieldValues_fieldBytes fs vs [] hh ha
  have hl : (fieldBytes fs vs).length = fieldsLength fs := fieldBytes_length fs vs ha
  simp [State.load, hl, hr, hv, valueRefusal, firstBad_admitted _ _ _ ha, hc]

end Sys2Proof.Machine
end

