-- ==== Sys2Proof/Laws/StickyRequests.lean ====
section
/-! SUPPORT. The conditions are sticky through every request but CLEAR_CONDITIONS (R189, R190): one lemma per handler, then one
for the dispatched frame. -/

namespace Sys2Proof.Machine

open Sys2Proof

theorem noPayload_grows (p : Payload) (s : State) (f : State → State × Payload) (h : Grows s (f s).1) :
    Grows s (noPayload p s f).1 := by
  unfold noPayload; split
  · exact h
  · exact .refl s

theorem withMask_grows (p : Payload) (s : State) (f : State → BitVec 22 → State × Payload) (h : ∀ m, Grows s (f s m).1) :
    Grows s (withMask p s f).1 := by
  unfold withMask; (repeat' split) <;> first | exact .refl s | exact h _

theorem withHead_grows (p : Payload) (s : State) (f : State → HeadId → State × Payload) (h : ∀ x, Grows s (f s x).1) :
    Grows s (withHead p s f).1 := by
  unfold withHead; (repeat' split) <;> first | exact .refl s | exact h _

theorem State.load_grows (s : State) (c : ItemClass) (fs : List FieldSpec) (p : Payload)
    (cross : List Int → List (Nat × Bool)) (write : State → List Int → State × Payload) (h : ∀ v, Grows s (write s v).1) :
    Grows s (s.load c fs p cross write).1 := by
  unfold State.load; (repeat' split) <;> first | exact .refl s | exact h _

theorem withBuild_grows (s : State) (slot : Nat) (f : Template → State × Payload) (h : ∀ t, Grows s (f t).1) :
    Grows s (withBuild s slot f).1 := by
  unfold withBuild; (repeat' split) <;> first | exact .refl s | exact h _

theorem withSlot_grows (rest : Payload) (s : State) (f : Nat → State × Payload) (h : ∀ n, Grows s (f n).1) :
    Grows s (withSlot rest s f).1 := by
  unfold withSlot; split <;> first | exact .refl s | exact h _

theorem handleSetMode_grows (p : Payload) (s : State) : Grows s (handleSetMode p s).1 := by
  simp only [handleSetMode, taken]
  (repeat' split) <;> with_reducible first | exact .refl s | exact s.changeMode_grows _ _

theorem State.openLot_grows (s : State) (id : Nat) : Grows s (s.openLot id) := by
  unfold State.openLot
  refine Grows.trans ?_ (State.testFeed_grows _)
  refine Grows.trans ?_ (State.handNotice_grows _ _)
  refine Grows.trans ?_ (State.writeEvent_grows _ _ _ _)
  exact .of_eq rfl

theorem State.closeLot_grows (s : State) : Grows s s.closeLot := by
  unfold State.closeLot
  refine Grows.trans ?_ (State.lotCloseTest_grows _)
  have a : Grows s ((s.setCmc { s.cmc with lot := .closing }).testFeed) :=
    (s.setLot_grows _).trans (State.testFeed_grows _)
  split
  · exact a.trans (State.changeMode_grows _ _ _)
  · exact a

theorem State.noticeConditions_grows (cs : List Condition) (s : State) : Grows s (s.noticeConditions cs) := by
  unfold State.noticeConditions
  induction cs generalizing s with
  | nil => exact .refl s
  | cons c cs ih => exact (s.handNotice_grows _).trans (ih _)

theorem handleSetAlertEnables_grows (p : Payload) (s : State) : Grows s (handleSetAlertEnables p s).1 :=
  withMask_grows _ _ _ fun m =>
    Grows.trans (t := s.setCmc { s.cmc with enables := m }) (.of_eq rfl) (State.noticeConditions_grows _ _)

theorem State.headConfigTaken_grows (s : State) (h : HeadId) (b : Bool) : Grows s (s.headConfigTaken h b) := by
  unfold State.headConfigTaken
  dsimp only
  refine Grows.trans ?_ (State.judgeConsumables_grows _ _)
  split
  · exact s.setHead_grows _ _
  · exact s.enterIdle_grows _
  · exact .refl s

theorem State.setCapillary_grows (s : State) (h : HeadId) (n : Nat) : Grows s (s.setCapillary h n) := by
  simp only [State.setCapillary]
  refine Grows.trans ?_ (State.writeEvent_grows _ _ _ _)
  split
  · exact (s.setHead_grows _ _).trans (State.rearmCap_grows _ _)
  · exact (s.setHead_grows _ _).trans (State.judgeCap_grows _ _)
theorem State.fillSpool_grows (s : State) (h : HeadId) : Grows s (s.fillSpool h) :=
  ((s.setHead_grows _ _).trans (State.rearmSpool_grows _ _)).trans (State.writeEvent_grows _ _ _ _)
theorem State.release_grows (s : State) (i : RegionId) (n : Nat) : Grows s (s.release i n).1 := by
  simp only [State.release]
  split
  · exact .refl s
  · exact (s.setRegion_grows _ _).trans (State.roomFell_grows _ _)

/-! ## Station Link and CMC -/

theorem handleIdentify_grows (p : Payload) (s : State) : Grows s (handleIdentify p s).1 := noPayload_grows _ _ _ (.refl s)
theorem handleLinkEcho_grows (p : Payload) (s : State) : Grows s (handleLinkEcho p s).1 := by
  unfold handleLinkEcho; split <;> exact .refl s

theorem handleGetCellStatus_grows (p : Payload) (s : State) : Grows s (handleGetCellStatus p s).1 :=
  noPayload_grows _ _ _ (.refl s)

theorem handleStartLot_grows (p : Payload) (s : State) : Grows s (handleStartLot p s).1 := by
  simp only [handleStartLot]
  (repeat' split) <;> first | exact .refl s | exact s.openLot_grows _

theorem handleEndLot_grows (p : Payload) (s : State) : Grows s (handleEndLot p s).1 := by
  refine noPayload_grows _ _ _ ?_
  split
  · exact .refl s
  · exact .refl s
  · exact s.closeLot_grows

theorem handleSetHold_grows (p : Payload) (s : State) : Grows s (handleSetHold p s).1 :=
  noPayload_grows _ _ _ (s.setQualityHold_grows _)
theorem handleClearHold_grows (p : Payload) (s : State) : Grows s (handleClearHold p s).1 :=
  noPayload_grows _ _ _ (s.clearQualityHold_grows _)
theorem handleHalt_grows (p : Payload) (s : State) : Grows s (handleHalt p s).1 := by
  refine noPayload_grows _ _ _ ?_
  show Grows s (if s.cmc.mode = .halt then s else s.enterHalt 7)
  split
  · exact .refl s
  · exact s.enterHalt_grows 7
theorem handleReadConditions_grows (p : Payload) (s : State) : Grows s (handleReadConditions p s).1 :=
  noPayload_grows _ _ _ (.refl s)
theorem handleWarmRestart_grows (p : Payload) (s : State) : Grows s (handleWarmRestart p s).1 := by
  refine noPayload_grows _ _ _ ?_
  (repeat' split) <;> first | exact .refl s | exact .of_eq rfl

/-! ## Recipe Store -/

theorem handleLoadLayout_grows (p : Payload) (s : State) : Grows s (handleLoadLayout p s).1 :=
  s.load_grows _ _ _ _ _ fun _ => s.setRs_grows _
theorem handleLoadWires_grows (p : Payload) (s : State) : Grows s (handleLoadWires p s).1 := by
  simp only [handleLoadWires]
  (repeat' split) <;> first | exact .refl s | exact s.setRs_grows _
theorem handleLoadBondSet_grows (p : Payload) (s : State) : Grows s (handleLoadBondSet p s).1 :=
  s.load_grows _ _ _ _ _ fun _ => s.setRs_grows _
theorem handleLoadLoop_grows (p : Payload) (s : State) : Grows s (handleLoadLoop p s).1 :=
  s.load_grows _ _ _ _ _ fun _ => s.setRs_grows _
theorem handleLoadPlan_grows (p : Payload) (s : State) : Grows s (handleLoadPlan p s).1 := by
  simp only [handleLoadPlan]
  (repeat' split) <;> first | exact .refl s | exact s.setRs_grows _

theorem handleLoadHeadConfig_grows (p : Payload) (s : State) : Grows s (handleLoadHeadConfig p s).1 := by
  refine s.load_grows _ _ _ _ _ fun v => ?_
  dsimp only
  split
  · exact .refl s
  · exact (s.setRs_grows _).trans (State.headConfigTaken_grows ..)
theorem handleLoadTrackConfig_grows (p : Payload) (s : State) : Grows s (handleLoadTrackConfig p s).1 :=
  s.load_grows _ _ _ _ _ fun _ => (s.setRs_grows _).trans (State.trackConfigTaken_grows _)
theorem handleReadRecipeItem_grows (p : Payload) (s : State) : Grows s (handleReadRecipeItem p s).1 := by
  simp only [handleReadRecipeItem]
  (repeat' split) <;> exact .refl s
theorem handleCheckRecipe_grows (p : Payload) (s : State) : Grows s (handleCheckRecipe p s).1 := by
  unfold handleCheckRecipe; split <;> exact .refl s

/-! ## Heads, track, Drive Line, pull station -/

theorem handleHeadStatus_grows (p : Payload) (s : State) : Grows s (handleHeadStatus p s).1 :=
  withHead_grows _ _ _ fun _ => .refl s
theorem handleResumeHead_grows (p : Payload) (s : State) : Grows s (handleResumeHead p s).1 := by
  refine withHead_grows _ _ _ fun h => ?_
  split <;> first | exact .refl s | exact State.resume_grows ..

theorem handleSetCapillaryCount_grows (p : Payload) (s : State) : Grows s (handleSetCapillaryCount p s).1 := by
  simp only [handleSetCapillaryCount]
  (repeat' split) <;> first | exact .refl s | exact State.setCapillary_grows ..
theorem handleLoadSpool_grows (p : Payload) (s : State) : Grows s (handleLoadSpool p s).1 := by
  refine withHead_grows _ _ _ fun h => ?_
  split <;> first | exact .refl s | exact State.fillSpool_grows ..
theorem handleStripMap_grows (p : Payload) (s : State) : Grows s (handleStripMap p s).1 := by
  simp only [handleStripMap]
  (repeat' split) <;> first | exact .refl s | exact s.setTrc_grows _
theorem handleTrackStatus_grows (p : Payload) (s : State) : Grows s (handleTrackStatus p s).1 :=
  noPayload_grows _ _ _ (.refl s)
theorem handleMagazineStatus_grows (p : Payload) (s : State) : Grows s (handleMagazineStatus p s).1 := by
  simp only [handleMagazineStatus]
  (repeat' split) <;> exact .refl s
theorem handleDriveStatus_grows (p : Payload) (s : State) : Grows s (handleDriveStatus p s).1 :=
  noPayload_grows _ _ _ (.refl s)
theorem handleClassify_grows (p : Payload) (s : State) : Grows s (handleClassify p s).1 := by
  simp only [handleClassify]
  (repeat' split) <;> first | exact .refl s | exact s.classifyPull_grows _ _ _
theorem handleLotStats_grows (p : Payload) (s : State) : Grows s (handleLotStats p s).1 := noPayload_grows _ _ _ (.refl s)
theorem handlePullQueueStatus_grows (p : Payload) (s : State) : Grows s (handlePullQueueStatus p s).1 := by
  simp only [handlePullQueueStatus]
  (repeat' split) <;> exact .refl s

/-! ## Record Memory -/

theorem handleSetRegions_grows (p : Payload) (s : State) : Grows s (handleSetRegions p s).1 := by
  simp only [handleSetRegions]
  (repeat' split) <;> first | exact .refl s | exact s.setRm_grows _
theorem handleRegionStatus_grows (p : Payload) (s : State) : Grows s (handleRegionStatus p s).1 := by
  simp only [handleRegionStatus]
  (repeat' split) <;> exact .refl s
theorem handleReadRecords_grows (p : Payload) (s : State) : Grows s (handleReadRecords p s).1 := by
  simp only [handleReadRecords]
  (repeat' split) <;> exact .refl s

theorem handleReleaseRecords_grows (p : Payload) (s : State) : Grows s (handleReleaseRecords p s).1 := by
  simp only [handleReleaseRecords]
  (repeat' split) <;> first | exact .refl s | exact s.release_grows _ _

/-! ## Panel -/

theorem handleSetPanelTiming_grows (p : Payload) (s : State) : Grows s (handleSetPanelTiming p s).1 := by
  simp only [handleSetPanelTiming]
  (repeat' split) <;> first | exact .refl s | exact s.setPnc_grows _

theorem handleScreenBegin_grows (rest : Payload) (s : State) : Grows s (handleScreenBegin rest s).1 := by
  simp only [handleScreenBegin]
  split
  · exact .refl s
  · refine withSlot_grows _ _ _ fun n => ?_
    split <;> first | exact .refl s | exact s.setPnc_grows _
theorem handleScreenText_grows (rest : Payload) (s : State) : Grows s (handleScreenText rest s).1 := by
  simp only [handleScreenText]
  split
  · exact .refl s
  · refine withSlot_grows _ _ _ fun n => withBuild_grows _ _ _ fun t => ?_
    (repeat' split) <;> first | exact .refl s | exact s.setPnc_grows _
theorem handleScreenFields_grows (rest : Payload) (s : State) : Grows s (handleScreenFields rest s).1 := by
  simp only [handleScreenFields]
  split
  · exact .refl s
  · refine withSlot_grows _ _ _ fun n => withBuild_grows _ _ _ fun t => ?_
    (repeat' split) <;> first | exact .refl s | exact s.setPnc_grows _
theorem handleScreenCommit_grows (rest : Payload) (s : State) : Grows s (handleScreenCommit rest s).1 := by
  simp only [handleScreenCommit]
  split
  · exact .refl s
  · refine withSlot_grows _ _ _ fun n => withBuild_grows _ _ _ fun t => s.setPnc_grows _
theorem handleLoadScreen_grows (p : Payload) (s : State) : Grows s (handleLoadScreen p s).1 := by
  simp only [handleLoadScreen]
  split
  · exact .refl s
  · split
    · exact handleScreenBegin_grows _ s
    · exact handleScreenText_grows _ s
    · exact handleScreenFields_grows _ s
    · exact handleScreenCommit_grows _ s
    · split <;> exact .refl s

theorem handleShowScreen_grows (p : Payload) (s : State) : Grows s (handleShowScreen p s).1 := by
  simp only [handleShowScreen]
  (repeat' split) <;> first | exact .refl s | exact s.setPnc_grows _
theorem handleShowPattern_grows (p : Payload) (s : State) : Grows s (handleShowPattern p s).1 := by
  simp only [handleShowPattern]
  (repeat' split) <;> first | exact .refl s | exact s.setPnc_grows _
theorem handleRaisePrompt_grows (p : Payload) (s : State) : Grows s (handleRaisePrompt p s).1 := by
  simp only [handleRaisePrompt]
  (repeat' split) <;> first | exact .refl s | exact State.raiseNote_grows ..
theorem handleWithdrawPrompt_grows (p : Payload) (s : State) : Grows s (handleWithdrawPrompt p s).1 := by
  simp only [handleWithdrawPrompt]
  (repeat' split) <;> first | exact .refl s | exact State.removePrompt_grows ..
theorem handlePromptStatus_grows (p : Payload) (s : State) : Grows s (handlePromptStatus p s).1 :=
  noPayload_grows _ _ _ (.refl s)
theorem handleSetTone_grows (p : Payload) (s : State) : Grows s (handleSetTone p s).1 := by
  simp only [handleSetTone]
  (repeat' split) <;> first | exact .refl s | exact s.setPnc_grows _

/-! ## One dispatched frame (R197) -/

theorem handlerOf_grows (code : Nat) (h : Payload → State → State × Payload) (k : handlerOf code = some h)
    (other : code ≠ 0x10) (p : Payload) (s : State) : Grows s (h p s).1 := by
  unfold handlerOf at k
  split at k
  · cases k; exact handleIdentify_grows p s
  · cases k; exact handleLinkEcho_grows p s
  · cases k; exact handleSetMode_grows p s
  · cases k; exact handleGetCellStatus_grows p s
  · cases k; exact handleStartLot_grows p s
  · cases k; exact handleEndLot_grows p s
  · cases k; exact handleSetHold_grows p s
  · cases k; exact handleClearHold_grows p s
  · cases k; exact handleHalt_grows p s
  · cases k; exact handleReadConditions_grows p s
  · exact absurd rfl other
  · cases k; exact handleSetAlertEnables_grows p s
  · cases k; exact handleWarmRestart_grows p s
  · cases k; exact handleLoadLayout_grows p s
  · cases k; exact handleLoadWires_grows p s
  · cases k; exact handleLoadBondSet_grows p s
  · cases k; exact handleLoadLoop_grows p s
  · cases k; exact handleLoadPlan_grows p s
  · cases k; exact handleLoadHeadConfig_grows p s
  · cases k; exact handleLoadTrackConfig_grows p s
  · cases k; exact handleReadRecipeItem_grows p s
  · cases k; exact handleCheckRecipe_grows p s
  · cases k; exact handleHeadStatus_grows p s
  · cases k; exact handleResumeHead_grows p s
  · cases k; exact handleSetCapillaryCount_grows p s
  · cases k; exact handleLoadSpool_grows p s
  · cases k; exact handleStripMap_grows p s
  · cases k; exact handleTrackStatus_grows p s
  · cases k; exact handleMagazineStatus_grows p s
  · cases k; exact handleDriveStatus_grows p s
  · cases k; exact handleClassify_grows p s
  · cases k; exact handleLotStats_grows p s
  · cases k; exact handlePullQueueStatus_grows p s
  · cases k; exact handleSetRegions_grows p s
  · cases k; exact handleRegionStatus_grows p s
  · cases k; exact handleReadRecords_grows p s
  · cases k; exact handleReleaseRecords_grows p s
  · cases k; exact handleSetPanelTiming_grows p s
  · cases k; exact handleLoadScreen_grows p s
  · cases k; exact handleShowScreen_grows p s
  · cases k; exact handleShowPattern_grows p s
  · cases k; exact handleRaisePrompt_grows p s
  · cases k; exact handleWithdrawPrompt_grows p s
  · cases k; exact handlePromptStatus_grows p s
  · cases k; exact handleSetTone_grows p s
  · cases k

theorem State.handle_grows (s : State) (f : Frame) (other : f.code ≠ 0x10#8) : Grows s (s.handle f).1 := by
  unfold State.handle
  split
  · rename_i h k
    exact handlerOf_grows _ h k (fun e => other (BitVec.eq_of_toNat_eq (by simpa using e))) _ _
  · exact .refl s

theorem State.dispatch_grows (s : State) (f : Frame) (other : f.code ≠ 0x10#8) : Grows s (s.dispatch f) :=
  (s.handle_grows f other).trans (.of_eq rfl)

end Sys2Proof.Machine
end

