-- ==== Sys2Proof/Tests/Slice0.lean ====
section
/-! SUPPORT. Tests: ill-formed commands are refused, single steps give what the spec's worked cases give, and every statement
with hypotheses has a state and operands that meet them. -/

namespace Sys2Proof.Tests

open Sys2Proof Sys2Proof.Machine

set_option Elab.async false

/-! ## Small states -/

/-- The state after a command, or State.reset where it stops. -/
def after (c : Instr) (s : State) : State :=
  match exec c s with
  | .next t => t
  | .fault _ => State.reset
  | .refused _ => State.reset

/-- The ball set of worked case 1 of chapter 3, with the contact window and the powers it gives. -/
def ballSet : BondSet :=
  { force := 500, pSet := 120, r := 40, tPre := 2000, t := 10000, cw := 50, eMin := 1100, eMax := 1600, dMin := 80,
    dMax := 180, guard := 10 }

/-- The head configuration of worked case 1. -/
def headOne : HeadConfig := { HeadConfig.powerOn with gain := 5 }

/-- A layout of one row and two columns, both in the band. -/
def smallLayout : Layout := { Layout.zero with rows := 1, cols := 2, px := 100, py := 100, wires := 1, a := 0, b := 3 }

/-- A recipe that passes the check: one wire. -/
def recipe : RecipeStore :=
  { layout := ⟨smallLayout, true⟩
    wires := (Vector.replicate 512 ⟨WireEntry.zero, false⟩).set 0 ⟨{ WireEntry.zero with z1 := 1500, z2 := 600 }, true⟩
    sets := (Vector.replicate 64 ⟨BondSet.zero, false⟩).set 0 ⟨ballSet, true⟩
    loops := (Vector.replicate 32 ⟨LoopProfile.zero, false⟩).set 0 ⟨⟨100, 50, 1⟩, true⟩
    plan := .powerOn
    heads := ⟨⟨headOne, true⟩, ⟨headOne, true⟩⟩
    track := ⟨.powerOn, true⟩ }

/-- The cell in a mode and lot state, with the recipe and the track checked. -/
def cell (m : Mode) (l : LotState) : State :=
  { State.reset with rs := recipe, cmc := { State.reset.cmc with mode := m, lot := l, trackCheck := true, conditions := 0 } }

/-- A strip of two PENDING units at a station. -/
def strip (st : Station) (complete : Bool) : StripRecord :=
  { serial := 7, inMag := 1, inSlot := 1, station := st, mapPresent := false, origin := .none,
    units := newUnits smallLayout 0#192, complete := complete, marginalCount := 0, marginals := [],
    pullList := some [⟨1, 1, 1, .plan⟩], good := 0, failed := 0, timeFed := 0, timeStored := 0, out := none }

/-- The running cell with one strip, clamped and in band. -/
def onTrack (st : Station) (complete : Bool) : State :=
  let s := cell .run .opened
  { s with stu := { s.stu with strips := [strip st complete] }, trc := { s.trc with clamp := .closed, heat := .inBand } }

/-- Wire 1 of the unit at row 1, column 1, started at 500,000 touchdowns. -/
def snapshot : Snapshot := takeSnapshot recipe headOne ⟨7, 1, 1⟩ 1 500000

/-- Head A in a phase of that wire. -/
def bonding (p : Phase) : State :=
  let s := onTrack .bond false
  { s with
    heads :=
      { s.heads with
        a :=
          { Head.powerOn with
            state := .active, phase := some p, unit := some ⟨7, 1, 1⟩, wireIndex := 1, snapshot := some snapshot,
            restartSpark := false, nCap := 500000 } } }

/-- Head A of a state replaced. -/
def withA (s : State) (f : Head → Head) : State := { s with heads := { s.heads with a := f s.heads.a } }

/-- The drive line of a state replaced. -/
def withLine (s : State) (l : LineState) : State := { s with dlc := { s.dlc with line := l, stopPending := false } }

/-- The top prompt replaced. -/
def withPrompt (s : State) (k : PromptKind) (source : Nat) : State :=
  { s with
    pnc :=
      { s.pnc with
        prompts :=
          [{ kind := k, source := source, severity := .alarm, arg := 0, raiseNo := 1, time := 0, text := [] }] } }

/-- A pull staged for classification. -/
def staged : Staged :=
  { serial := 1, strip := 7, entry := ⟨1, 1, 1, .plan⟩, force := 500, breakHeight := 10, time := 0,
    provisionalFail := false }

/-- A state with that pull in the queue. -/
def withPull (s : State) : State := { s with psc := { s.psc with queue := [staged], counter := 1 } }

/-- Fields of the CLASSIFY view with the pull latched. -/
def classifyView (s : State) : State :=
  { withPull s with pnc := { s.pnc with selection := .view .classify, latched := some 1 } }

/-! ## Ill-formed commands -/

/-- R194: 249 payload bytes are no frame. -/
theorem test_wellFormed_refuses_overlong_payload : (Instr.linkEcho 1 (List.replicate 249 0)).wellFormed = false := by
  decide +kernel

/-- R194: the part byte of LOAD_SCREEN counts. -/
theorem test_wellFormed_refuses_overlong_screen : (Instr.loadScreenText 1 (List.replicate 248 0)).wellFormed = false := by
  decide +kernel

/-- R200: 0x08 is a request. -/
theorem test_wellFormed_refuses_request_code : (Instr.unknownCode 0x08 1 []).wellFormed = false := by decide

theorem test_wellFormed_takes_longest_payload : (Instr.linkEcho 1 (List.replicate 248 0)).wellFormed = true := by
  decide +kernel

/-! ## Worked cases of the spec -/

/-- 7.9: SEARCH to 950 at speed 1 for drive 1 is 0x11, 3, 0x03, 0xB6, 0x01, checksum 0x32. -/
theorem test_search_frame :
    commandFrame 1 (DriveOp.search 950 1).code (DriveOp.search 950 1).args = [0x101, 0x11, 3, 0x03, 0xB6, 0x01, 0x32] := by
  decide

/-- R128: STOP is address 0, op 0x7F, length 0, checksum 0x81. -/
theorem test_stop_frame : commandFrame 0 0x7F [] = [0x100, 0x7F, 0, 0x81] := by decide

/-- R194: the CRC's generator, start value and order give the well-known check value over the digits 1 to 9. -/
theorem test_crc : crc16 [0x31, 0x32, 0x33, 0x34, 0x35, 0x36, 0x37, 0x38, 0x39] = 0x29B1#16 := by
  decide +kernel

/-- Chapter 3, worked case 1: P_eff 150, P_pre 60, SATURATED clear. -/
theorem test_power_case_one : powerOf ballSet headOne (wearSteps 500000) = ⟨30, 150, 60, false⟩ := by decide

/-- Chapter 3, worked case 2: 2214, 950, 285, SATURATED. -/
theorem test_power_case_two :
    powerOf { ballSet with pSet := 900, r := 30 } { headOne with pLim := 950, gain := 20 } (wearSteps 1234567) =
      ⟨2214, 950, 285, true⟩ := by decide

/-- Chapter 3, worked case 1: E 1304 and d 125 from S 26,080, z_c 1520 and z_e 1395. -/
theorem test_energy_case_one :
    let c := { Capture.clear with zc := some 1520, sum := 26080, received := 200, acc := .opened }.expire ballSet 1395
    (c.energy, c.shortfall, c.deform) = (1304, 0, 125) := by decide

/-- Chapter 3, worked case 3: ENERGY_LOW with the flags ENERGY_LOW, DEFORM_LOW and SHORTFALL, shortfall 3. -/
theorem test_verdict_case_three :
    let set := { ballSet with t := 5000, eMin := 600, eMax := 900, dMin := 40, dMax := 150, guard := 0 }
    let c := ({ Capture.clear with zc := some 2210, sum := 9700, received := 97, acc := .opened }.expire set 2188).judge set
      ⟨0, 0, 0, false⟩ true
    (c.verdict, c.flags, c.shortfall) = (some .energyLow, 0b10001010#8, 3) := by decide

/-- R28: the SEARCH limit at z1 1500 with cw 50 is 950; at 600 with cw 80 the rule gives 20 (log 35); below cw + 500 it is 0. -/
theorem test_search_limit : searchLimit 1500 50 = 950 ∧ searchLimit 600 80 = 20 ∧ searchLimit 500 80 = 0 := by decide

/-! ## Single steps -/

/-- The machine of the host's interface starts as State.reset and idles for one millisecond. -/
theorem test_core_idles :
    (match Sys2Proof.core.step Sys2Proof.core.reset with
      | .next (t : State) => t.cmc.cellTime
      | _ => 0) = 1 := by decide +kernel

/-- R199, R203: after a millisecond the transmitter is sending STARTED, and the first frame sent ends it and takes PROMPT. -/
theorem test_started_is_sent_first :
    (match step State.reset with
      | .next t => t.link.tx
      | _ => none) = some (.notice (.started false false)) ∧
      (after .frameSent State.reset).link.tx = State.reset.link.notices[1]?.map .notice := by decide +kernel

/-- R40: a wire broken in TAIL after two GOOD verdicts is FAILED. -/
theorem test_break_after_good_is_failed :
    let s := withA (bonding .tail) fun x =>
      { x with
        ball := { x.ball with verdict := some .good }
        stitch := { x.stitch with verdict := some .good } }
    (match (after (.wireBreakAsserted .a) s).rm.bondA.records with
      | [.wire r] => (r.outcome, r.ball.verdict, r.stitch.verdict)
      | _ => (.aborted, .lift, .lift)) = (.failed, .good, .good) := by decide +kernel

/-- R182: the HALT input takes the cell to HALT with cause 6. -/
theorem test_halt_input :
    let t := after .haltInputAsserted (cell .run .opened)
    (t.cmc.mode, t.cmc.cause) = (.halt, 6) := by decide +kernel

/-- R173, R188: ACK of TRACK_CHECK sets the flag and removes the prompt. -/
theorem test_ack_track_check :
    let t := after .ack State.reset
    (t.cmc.trackCheck, t.pnc.prompts) = (true, []) := by decide +kernel

/-- R28, R81: a contact of 1520 at nominal 1500 counts a touchdown and starts the weld at P_pre 60. -/
theorem test_contact :
    let x := (after (.contactEdge .a 1520#16) (bonding .search1)).heads.a
    (x.nCap, x.phase, x.force, x.ultrasonic) = (500001, some .weld1, 500, 60) := by decide +kernel

/-- R29: a contact 51 above nominal is HEIGHT and raises. -/
theorem test_contact_outside_window :
    let x := (after (.contactEdge .a 1551#16) (bonding .search1)).heads.a
    (x.ball.verdict, x.phase, x.force) = (some .height, some .raise, 0) := by decide +kernel

/-- R86: a pulse outside a wire comes off the spool only. -/
theorem test_feed_pulse :
    let x := (after (.feedPulse .a) State.reset).heads.a
    (x.spool, x.wireFeed) = (49999999, 0) := by decide +kernel

/-- R25, R36: with the restart flag set the wire begins with SPARK and room for its record is reserved. -/
theorem test_wire_start :
    let t := after (.wireStart .a) (withA (onTrack .bond false) fun x =>
      { x with state := .ready, unit := some ⟨7, 1, 1⟩, wireIndex := 1 })
    (t.heads.a.state, t.heads.a.phase, t.rm.bondA.reserved) = (.active, some .spark, 1) := by decide +kernel

/-- R69: neither head has held the band, so head A is first. -/
theorem test_band_grant :
    let s := onTrack .bond false
    let t := after .bandGrant { s with stu := { s.stu with request := ⟨true, true⟩ } }
    (t.stu.grant, t.heads.a.unit) = (some .a, some ⟨7, 1, 1⟩) := by decide +kernel

/-- R109: the track moves, and UNCLAMP goes to the indexer. -/
theorem test_sequence_start :
    let t := after .trackSequenceStart (onTrack .bond true)
    (t.trc.seq, t.dlc.queue) = (.unclamp, [.indexer]) := by decide +kernel

/-- R105: 150.0 °C against setpoint 150.0 °C is in band. -/
theorem test_temperature_report :
    let s := withLine State.reset (.poll .workHolder [0x03, 0x60, 0x02, 0x05, 0xDC])
    let t := after (.statusFrameCharacter ((0 - (0x65 + 0x05 + 0xDC) : Byte).setWidth 9)) s
    (t.trc.lastTemp, t.trc.heat) = (1500, .inBand) := by decide +kernel

/-- R98: a scan that finds slot 1 passes over the TAKEN slot 2 and goes on at 3. -/
theorem test_scan_goes_on :
    let t := after (statusEnd 1 0x30 [1])
      (withLine
        ({ State.reset with
            trc :=
              { State.reset.trc with
                inOp := some .scan
                inMag :=
                  { State.reset.trc.inMag with
                    state := .scanning, number := 1
                    slots := (Vector.replicate 64 InSlot.unknown).set 1 .taken
                    scanSlot := some 1 } } }.setDrive .inElevator
          { stage := .outstanding, op := some (.scan 1), acceptAt := 0, timeout := 500, lastFault := ⟨.none, 0, 0⟩
            attention := false })
        (.poll .inElevator (statusHead 1 0x30 [1])))
    (t.trc.inMag.slot 1, t.trc.inMag.scanSlot, t.dlc.queue) = (.loaded, some 3, [.inElevator]) := by decide +kernel

/-- R130: a STOP being sent is line state 3, and the line is free a millisecond later. -/
theorem test_stop_is_a_transfer :
    let s := after .stop State.reset
    (s.dlc.line.code, (match step s with | .next t => t.dlc.line.code | _ => 9)) = (3, 0) := by decide +kernel

/-- R106: each SET_TEMP behind one still outstanding waits, oldest first. -/
theorem test_set_temps_wait :
    let s := cell .setup .none
    let load := fun t => after (.loadTrackConfig 1
      ([20, 20] ++ beBytes 2 3000 ++ beBytes 2 t ++ [50] ++ beBytes 2 1000 ++ beBytes 2 2000 ++ beBytes 2 2000))
    let t := load 1700 { load 1600 { load 1500 s with link := s.link } with link := s.link }
    (t.trc.setTempOut, t.trc.setTempWaiting, t.dlc.queue) = (true, [1600, 1700], [.workHolder]) := by decide +kernel

/-! ## States and operands that meet the statements' hypotheses -/

theorem free_reset : State.reset.link.Free := ⟨rfl, rfl, rfl⟩

theorem free_cell (m : Mode) (l : LotState) : (cell m l).link.Free := ⟨rfl, rfl, rfl⟩

/-- A state whose link sends a reply, with the next reply waiting and n frames behind it. -/
def busyLink (n : Nat) : State :=
  { State.reset with
    link :=
      { State.reset.link with
        tx := some (.reply ⟨0x41, 1, [0]⟩), reply := some ⟨0x42, 2, [0]⟩
        rxQueue := List.replicate n ⟨0x01, 3, []⟩ } }

/-- A state whose link sends a notice, with a reply and notices given. -/
def sending (r : Option Frame) (ns : List Notice) : State :=
  { State.reset with link := { State.reset.link with tx := some (.notice (.lot .none 0)), reply := r, notices := ns } }

theorem witness_StepRunsTheFrontCommand : State.reset.pending = [] := rfl

theorem witness_PowerOnClearsEverything :
    (let p : Pins :=
      { fastLink := false, haltAsserted := false, locked := false, supervisor := false, wireBreakA := false,
        wireBreakB := false, attention := 0 }
     p.haltAsserted = false ∧ p.wireBreakA = false ∧ p.wireBreakB = false) := by decide

theorem witness_WarmRestartKeepsTheRecipeAndTheLot :
    (let s := { State.reset with link := { State.reset.link with restart := .due } }
     s.link.restart = .due ∧ s.cmc.haltInput = false ∧ (s.head .a).wireBreak = false ∧ (s.head .b).wireBreak = false) := by
  decide +kernel

theorem witness_FrameBytesReadBackAsTheFrame :
    ((⟨0x02, 7, List.replicate 248 0xA5⟩ : Frame).payload.length ≤ 248 ∧ State.reset.link.rx = .hunt) ∧
      (⟨0x01, 7, []⟩ : Frame).payload.length ≤ 248 ∧
      [(0 : Byte), 0] ≠ beBytes 2 (crc16 (⟨0x01, 7, []⟩ : Frame).lenBody).toNat := by decide +kernel

/-- A receiver that has taken the bytes given of a frame of LEN 2. -/
def receiving (r : Receiver) : State := { State.reset with link := { State.reset.link with rx := r } }

theorem witness_ReceiverTakesOneByte :
    (State.reset.link.rx = .hunt ∧ (2 : Byte).toNat = 2 ∧ (250 : Byte).toNat ≤ 250 ∧ (251 : Byte).toNat > 250 ∧
      (receiving .length).link.rx = .length) ∧
    ((receiving (.body 2 [])).link.rx = .body 2 [] ∧ ([] : List Byte).length + 1 < 2 ∧
      (receiving (.body 2 [1])).link.rx = .body 2 [1] ∧ 2 ≤ [(1 : Byte)].length + 1) ∧
    (receiving (.crc 2 [1, 7] none)).link.rx = .crc 2 [1, 7] none ∧
    (receiving (.crc 2 [1, 7] (some 0))).link.rx = .crc 2 [1, 7] (some 0) := by decide +kernel

theorem witness_FreeLinkAnswersEveryRequest :
    ((Instr.identify 7 []).frame = some ⟨0x01, 7, []⟩ ∧ ([] : Payload).length ≤ 248 ∧ State.reset.link.Free) ∧
    (requestCodes.contains (0x3F : Byte).toNat = false ∧ requestCodes.contains (0x40 : Byte).toNat = false) ∧
    (Instr.identify 7 (List.replicate 249 0)).frame = some ⟨0x01, 7, List.replicate 249 0⟩ ∧
    248 < (List.replicate 249 (0 : Byte)).length :=
  ⟨⟨rfl, by decide, free_reset⟩, by decide, rfl, by decide +kernel⟩

/-- A link that sends, behind a WARM_RESTART already taken, its reply or a frame before it. -/
def restarting (r : Option Frame) : State :=
  let s := sending r []
  { s with link := { s.link with restart := .replyPending } }

theorem witness_LinkQueuesAreServedInOrder :
    ((Instr.identify 7 []).frame = some ⟨0x01, 7, []⟩ ∧
      (∀ n ∈ [3, 4], (busyLink n).link.tx.isSome = true ∧ (busyLink n).link.reply.isSome = true ∧
        (busyLink n).link.rxQueue.length = n)) ∧
    ((∀ r ∈ [none, some (⟨0x41, 1, [0]⟩ : Frame)], (sending r []).link.tx.isSome = true ∧
        (sending r []).link.rxQueue = [] ∧ (sending r []).link.restart = .no ∧ (sending r []).link.reply = r) ∧
      (sending none [.lot .none 1]).link.notices = [.lot .none 1] ∧ (sending none []).link.notices = []) ∧
    (∀ n ∈ [0, 3], (busyLink (n + 1)).link.rxQueue = ⟨0x01, 3, []⟩ :: List.replicate n ⟨0x01, 3, []⟩ ∧
      (busyLink (n + 1)).link.reply = some ⟨0x42, 2, [0]⟩ ∧ (busyLink (n + 1)).link.restart = .no) ∧
    (State.reset.link.tx = none ∧ State.reset.link.rxQueue = [] ∧ State.reset.link.reply = none ∧
      State.reset.link.restart = .no ∧ 2 ≤ State.reset.link.notices.length) ∧
    ∀ r ∈ [none, some (⟨0x52, 1, [0]⟩ : Frame)], (restarting r).link.tx.isSome = true ∧
      (restarting r).link.restart = .replyPending ∧ (restarting r).link.reply = r := by decide +kernel

/-- R196, R197: the frame sent frees the reply slot, and the frame that waited is dispatched and answered at once. -/
theorem test_frame_sent_dispatches :
    let t := after .frameSent (busyLink 1)
    (t.link.rxQueue, t.link.reply.map (·.code), t.link.tx) = ([], some 0x41, some (.reply ⟨0x42, 2, [0]⟩)) := by
  decide +kernel

theorem witness_LinkEchoReturnsThePayload :
    State.reset.link.Free ∧ (List.replicate 247 (1 : Byte)).length ≤ 247 ∧ (List.replicate 248 (1 : Byte)).length = 248 :=
  ⟨free_reset, by decide +kernel, by decide +kernel⟩

theorem witness_IdentifyReportsThePart : State.reset.link.Free ∧ ([1] : Payload) ≠ [] ∧ ([1] : Payload).length ≤ 248 :=
  ⟨free_reset, by decide, by decide⟩

theorem witness_CellStatusReportsTheCmc : State.reset.link.Free := free_reset

/-- A cell with the quality hold set by the host. -/
def held (m : Mode) : State := { cell m .opened with cmc := { (cell m .opened).cmc with hold := some .host } }

theorem witness_SetModeMovesTheCellOrIsRefused :
    (∀ m l, (cell m l).link.Free) ∧
    ((cell .run .opened).cmc.mode ≠ .setup ∧
      ((cell .halt .none).cmc.mode = .halt → (cell .halt .none).cmc.haltInput = false) ∧
      ((cell .setup .opened).cmc.mode ≠ .run ∧ (cell .setup .opened).cmc.mode ≠ .halt ∧
        (cell .setup .opened).cmc.hold = none ∧ (cell .setup .opened).cmc.lot = .opened ∧
        checkRecipe (cell .setup .opened).rs = none ∧ (cell .setup .opened).cmc.trackCheck = true) ∧
      (cell .run .opened).cmc.mode = .run) ∧
    (held .setup).link.Free ∧ State.reset.link.Free ∧
    ((held .setup).cmc.mode ≠ .halt ∧ (held .setup).cmc.mode ≠ .run ∧ (held .setup).cmc.hold.isSome = true ∧
      State.reset.cmc.hold = none ∧ State.reset.cmc.lot ≠ .opened ∧ State.reset.cmc.mode ≠ .drain ∧
      (let s := { cell .setup .opened with rs := State.reset.rs }
       s.cmc.mode ≠ .halt ∧ s.cmc.mode ≠ .run ∧ s.cmc.hold = none ∧ s.cmc.lot = .opened ∧
        checkRecipe s.rs = some ⟨1, 0, 0⟩) ∧
      (let s := cell .setup .opened
       { s with cmc := { s.cmc with trackCheck := false } }.cmc.trackCheck = false) ∧
      (cell .halt .none).cmc.mode = .halt ∧ (after .haltInputAsserted State.reset).cmc.haltInput = true) :=
  ⟨free_cell, by decide +kernel, ⟨rfl, rfl, rfl⟩, free_reset, by decide +kernel⟩

theorem witness_LotsAreOpenedAndClosed :
    (State.reset.link.Free ∧ 4294967295 < 2 ^ 32 ∧ State.reset.cmc.mode = .setup ∧ State.reset.cmc.lot = .none) ∧
    (cell .run .opened).link.Free ∧ (cell .run .opened).cmc.lot = .opened :=
  ⟨⟨free_reset, by decide, rfl, rfl⟩, free_cell _ _, rfl⟩

theorem witness_HoldIsSetAndCleared : (cell .run .opened).link.Free := free_cell _ _

/-- Head A in SEARCH at its positioner, a pull in flight, and an index in progress or not. -/
def inFull (seq : SeqState) : State :=
  let s := withA (bonding .search1) fun x => { x with posOp := some .current }
  (({ s with
      trc := { s.trc with handedOver := true, seq := seq }
      psc := { s.psc with state := .pulling, strip := some 7, flight := some ⟨⟨1, 1, 1, .plan⟩, 0, 0⟩ } } : State).handOver
    .posA (.search 0 1)).handOver .pull (.pull 0 0)

theorem witness_HaltIsEntered :
    (State.reset.link.Free ∧ State.reset.cmc.mode ≠ .halt ∧ (State.reset.head .a).state ≠ .active ∧
      State.reset.psc.state ≠ .pulling) ∧
    ((∀ q, (inFull q).link.Free) ∧
      ∀ q ∈ [SeqState.idle, .index], (inFull q).cmc.mode ≠ .halt ∧ (inFull q).trc.seq = q ∧
        (∀ h ∈ [HeadId.a, .b], ((inFull q).head h).state = .active → ((inFull q).head h).snapshot.isSome = true) ∧
        ((inFull q).head .a).state = .active ∧ ((inFull q).head .a).snapshot = some snapshot ∧
        (inFull q).stu.request.get .a = false ∧ ((inFull q).dlc.drives.get (positioner .a)).stage ≠ .none ∧
        ((inFull q).head .a).wireBreak = false ∧ (inFull q).psc.state = .pulling ∧
        (inFull q).psc.flight = some ⟨⟨1, 1, 1, .plan⟩, 0, 0⟩ ∧ ((inFull q).dlc.drives.get .pull).stage ≠ .none ∧
        (inFull q).trc.handedOver = true ∧ (inFull q).trc.seqStopped = false) ∧
    (cell .halt .none).link.Free ∧ (cell .halt .none).cmc.mode = .halt :=
  ⟨⟨free_reset, by decide⟩, ⟨fun _ => ⟨rfl, rfl, rfl⟩, by decide +kernel⟩, free_cell _ _, rfl⟩

theorem witness_ConditionsAreClearedAndEnabled : State.reset.link.Free := free_reset

theorem witness_WarmRestartIsTaken : State.reset.link.Free := free_reset

theorem witness_LayoutAndWiresAreLoaded :
    State.reset.link.Free ∧ State.reset.cmc.mode = .setup ∧ State.reset.trackEmpty = true ∧
      (let l : Layout :=
        { rows := 8, cols := 24, px := 100, py := 100000, ox := -2000000000, oy := 2000000000, wires := 512, a := 24,
          b := 25 }
       1 ≤ l.rows ∧ l.rows ≤ 8 ∧ 1 ≤ l.cols ∧ l.cols ≤ 24 ∧ 100 ≤ l.px ∧ l.px ≤ 100000 ∧ 100 ≤ l.py ∧ l.py ≤ 100000 ∧
        -2000000000 ≤ l.ox ∧ l.ox ≤ 2000000000 ∧ -2000000000 ≤ l.oy ∧ l.oy ≤ 2000000000 ∧ 1 ≤ l.wires ∧
        l.wires ≤ 512 ∧ l.a ≤ l.cols ∧ l.b ≤ l.cols + 1 ∧ l.a < l.b) :=
  ⟨free_reset, by decide +kernel⟩

theorem witness_LayoutAndWiresAreLoaded_wires :
    (cell .setup .none).link.Free ∧ (cell .setup .none).cmc.mode = .setup ∧ (cell .setup .none).trackEmpty = true ∧
      (cell .setup .none).rs.layout.loaded = true ∧
      (let es : List WireEntry := [⟨-32000, 32000, 65535, 32000, -32000, 0, 31, 63, 63⟩]
       1 ≤ 1 ∧ 1 ≤ es.length ∧ es.length ≤ 6 ∧ 1 + es.length - 1 ≤ (cell .setup .none).rs.layout.item.wires ∧
        (cell .setup .none).rs.layout.item.wires ≤ 512 ∧
        ∀ w ∈ es, -32000 ≤ w.x1 ∧ w.x1 ≤ 32000 ∧ -32000 ≤ w.y1 ∧ w.y1 ≤ 32000 ∧ w.z1 ≤ 65535 ∧ -32000 ≤ w.x2 ∧
          w.x2 ≤ 32000 ∧ -32000 ≤ w.y2 ∧ w.y2 ≤ 32000 ∧ w.z2 ≤ 65535 ∧ w.loop ≤ 31 ∧ w.ballSet ≤ 63 ∧
          w.stitchSet ≤ 63) :=
  ⟨free_cell _ _, by decide +kernel⟩

theorem witness_ProcessItemsAndPlanAreLoaded :
    (cell .run .opened).link.Free ∧ (cell .run .opened).cmc.mode ≠ .halt ∧
      (let b : BondSet :=
        { force := 2000, pSet := 1000, r := 100, tPre := 51200, t := 51200, cw := 5000, eMin := 65535, eMax := 65535,
          dMin := 2000, dMax := 2000, guard := 25 }
       50 ≤ b.force ∧ b.force ≤ 2000 ∧ b.pSet ≤ 1000 ∧ b.r ≤ 100 ∧ b.tPre % 50 = 0 ∧ b.tPre ≤ b.t ∧ 100 ≤ b.t ∧
        b.t ≤ 51200 ∧ b.t % 50 = 0 ∧ b.cw ≤ 5000 ∧ b.eMin ≤ b.eMax ∧ b.eMax ≤ 65535 ∧ b.dMin ≤ b.dMax ∧
        b.dMax ≤ 2000 ∧ b.guard ≤ 25) ∧
      (let l : LoopProfile := ⟨1000, 500, 7⟩
       50 ≤ l.height ∧ l.height ≤ 1000 ∧ l.reverse ≤ 500 ∧ l.shape ≤ 7) :=
  ⟨free_cell _ _, by decide +kernel⟩

theorem witness_ProcessItemsAndPlanAreLoaded_plan :
    State.reset.link.Free ∧ State.reset.cmc.mode = .setup ∧
      (let q : Plan := { k := 255, m := 8, q := 255, fMin := 65535, accept := 31, sites := [⟨8, 24, 512⟩, ⟨1, 1, 1⟩] }
       q.k ≤ 255 ∧ q.sites.length ≤ 16 ∧ q.m ≤ 8 ∧ q.q ≤ 255 ∧ q.fMin ≤ 65535 ∧ 1 ≤ q.accept.toNat ∧
        q.accept.toNat ≤ 31 ∧
        (∀ x ∈ q.sites, 1 ≤ x.row ∧ x.row ≤ 8 ∧ 1 ≤ x.col ∧ x.col ≤ 24 ∧ 1 ≤ x.wire ∧ x.wire ≤ 512) ∧
        q.sites.Nodup) :=
  ⟨free_reset, by decide +kernel⟩

theorem witness_LoadHeadConfigJudgesTheHead :
    State.reset.link.Free ∧ State.reset.cmc.mode = .setup ∧ State.reset.trackEmpty = true ∧ HeadId.a ≠ .b ∧
      (State.reset.head .a).state ≠ .suspended ∧
      (let c : HeadConfig :=
        { enabled := false, pLim := 1000, life := 10000, gain := 100, liftLimit := 15, retries := 3, hx := -2000000000,
          hy := 2000000000, timeout := 5000, spoolSize := 2000, spoolLow := 2000, spoolReserve := 2000 }
       c.pLim ≤ 1000 ∧ 10000 ≤ c.life ∧ c.life ≤ 4000000 ∧ c.gain ≤ 100 ∧ 1 ≤ c.liftLimit ∧ c.liftLimit ≤ 15 ∧
        c.retries ≤ 3 ∧ -2000000000 ≤ c.hx ∧ c.hx ≤ 2000000000 ∧ -2000000000 ≤ c.hy ∧ c.hy ≤ 2000000000 ∧
        10 ≤ c.timeout ∧ c.timeout ≤ 5000 ∧ c.timeout % 10 = 0 ∧ 1 ≤ c.spoolSize ∧ c.spoolSize ≤ 2000 ∧
        c.spoolLow ≤ c.spoolSize ∧ c.spoolReserve ≤ c.spoolLow) :=
  ⟨free_reset, by decide +kernel⟩

theorem witness_LoadTrackConfigSetsTheHeat :
    State.reset.link.Free ∧ State.reset.cmc.mode = .setup ∧ State.reset.trackEmpty = true ∧
      (let c : TrackConfig :=
        { inSlots := 64, outSlots := 1, dwell := 60000, setpoint := 3000, band := 200, indexerTimeout := 10,
          elevatorTimeout := 5000, pullTimeout := 2000 }
       1 ≤ c.inSlots ∧ c.inSlots ≤ 64 ∧ 1 ≤ c.outSlots ∧ c.outSlots ≤ 64 ∧ c.dwell ≤ 60000 ∧ 1000 ≤ c.setpoint ∧
        c.setpoint ≤ 3000 ∧ 10 ≤ c.band ∧ c.band ≤ 200 ∧ 10 ≤ c.indexerTimeout ∧ c.indexerTimeout ≤ 5000 ∧
        c.indexerTimeout % 10 = 0 ∧ 10 ≤ c.elevatorTimeout ∧ c.elevatorTimeout ≤ 5000 ∧ c.elevatorTimeout % 10 = 0 ∧
        10 ≤ c.pullTimeout ∧ c.pullTimeout ≤ 5000 ∧ c.pullTimeout % 10 = 0) :=
  ⟨free_reset, by decide +kernel⟩

theorem witness_TheRecipeIsReadBack : State.reset.link.Free ∧ 1 ≤ 507 ∧ 1 ≤ 6 ∧ 6 ≤ 6 ∧ 507 + 6 - 1 ≤ 512 :=
  ⟨free_reset, by decide⟩

theorem witness_HeadDriveAndPromptReports : State.reset.link.Free := free_reset

theorem witness_TrackPullAndRegionReports : State.reset.link.Free ∧ 1 ≤ 32 ∧ 32 ≤ 32 := ⟨free_reset, by decide⟩

theorem witness_RegionsAreReadReleasedAndLaidOut :
    State.reset.link.Free ∧ 1 ≤ 14 ∧ 14 ≤ 14 ∧ 65535 < 65536 ∧
      1 ≤ (after .haltInputAsserted State.reset).rm.event.records.length :=
  ⟨free_reset, by decide +kernel⟩

/-- First and last block of five regions that fill the memory, the event region first. -/
def blocks : RegionId → Nat × Nat
  | .bondA => (1, 1)
  | .bondB => (2, 20)
  | .pull => (21, 21)
  | .strip => (22, 63)
  | .event => (0, 0)

theorem witness_RegionsAreReadReleasedAndLaidOut_layout :
    State.reset.link.Free ∧ State.reset.cmc.mode = .setup ∧ State.reset.trackEmpty = true ∧
      (∀ i : RegionId, (State.reset.rm.get i).reserved = 0 ∧ (blocks i).1 ≤ (blocks i).2 ∧ (blocks i).2 ≤ 63 ∧
        8 ≤ 64 * ((blocks i).2 + 1 - (blocks i).1) / cellsPerRecord i) ∧
      ∀ i j : RegionId, i ≠ j → (blocks i).2 < (blocks j).1 ∨ (blocks j).2 < (blocks i).1 := by
  refine ⟨free_reset, rfl, rfl, ?_, ?_⟩
  · intro i; cases i <;> decide
  · intro i j; cases i <;> cases j <;> decide

theorem witness_PanelRequestsSetThePanel :
    State.reset.link.Free ∧
      (let t : Timing :=
        { hActive := 1280, hSync := 255, hBack := 1023, hFront := 1, vActive := 240, vSync := 1, vBack := 1,
          vFront := 1023, polarity := 3, rate := 3 }
       320 ≤ t.hActive ∧ t.hActive ≤ 1280 ∧ 1 ≤ t.hSync ∧ t.hSync ≤ 255 ∧ 1 ≤ t.hBack ∧ t.hBack ≤ 1023 ∧ 1 ≤ t.hFront ∧
        t.hFront ≤ 1023 ∧ 240 ≤ t.vActive ∧ t.vActive ≤ 800 ∧ 1 ≤ t.vSync ∧ t.vSync ≤ 255 ∧ 1 ≤ t.vBack ∧
        t.vBack ≤ 1023 ∧ 1 ≤ t.vFront ∧ t.vFront ≤ 1023 ∧ t.polarity ≤ 3 ∧ t.rate ≤ 3) ∧
      ((2 : Byte), Pattern.grid) ∈ [((1 : Byte), Pattern.bars), (2, .grid), (3, .flat)] ∧ 125 ≤ 2000 ∧ 2000 ≤ 2000 :=
  ⟨free_reset, by decide⟩

theorem witness_LoadScreenBuildsATemplate :
    State.reset.link.Free ∧
      { State.reset.pnc with build := some (7, Template.blank true) }.build = some (7, Template.blank true) ∧
      80 + [(0x7E : Byte)].length - 1 ≤ 80 ∧ (∀ c ∈ [(0x7E : Byte)], 0x20 ≤ c.toNat ∧ c.toNat ≤ 0x7E) ∧
      (let fs : List ScreenField := [⟨30, 61, 20, 20, 3⟩]
       1 ≤ fs.length ∧ fs.length ≤ 24 ∧ (Template.blank true).fields.length + fs.length ≤ 48 ∧
        ∀ f ∈ fs, 1 ≤ f.row ∧ f.row ≤ 30 ∧ 1 ≤ f.col ∧ 1 ≤ f.width ∧ f.width ≤ 20 ∧ f.col + f.width - 1 ≤ 80 ∧
          (formatsOf f.var).contains f.format = true) :=
  ⟨free_reset, rfl, by decide +kernel⟩

theorem witness_HostNotesAreRaisedAndWithdrawn :
    State.reset.link.Free ∧ State.reset.pnc.noteInUse 1 = false ∧
      (withPrompt State.reset .hostNote 4).pnc.noteInUse 4 = true ∧ (withPrompt State.reset .hostNote 4).link.Free ∧
      ((1 : Byte), Severity.alarm) ∈ [((1 : Byte), Severity.alarm), (2, .action), (3, .info)] ∧
      (List.replicate 60 (0x20 : Byte)).length ≤ 60 ∧
      ∀ c ∈ List.replicate 60 (0x20 : Byte), 0x20 ≤ c.toNat ∧ c.toNat ≤ 0x7E :=
  ⟨free_reset, by decide, by decide, ⟨rfl, rfl, rfl⟩, by decide +kernel⟩

/-- Head A suspended with a reason, holding a unit. -/
def suspendedA (why : Reason) : State :=
  withA (onTrack .bond false) fun x => { x with state := .suspended, reason := some why, unit := some ⟨7, 1, 1⟩ }

theorem witness_ResumeHeadClearsTheReason :
    (suspendedA .capLife).link.Free ∧ HeadId.a ≠ .b ∧ ((suspendedA .capLife).head .a).state = .suspended ∧
      ((suspendedA .capLife).head .a).reason = some .capLife ∧ ((suspendedA .capLife).head .a).wireBreak = false ∧
      ((suspendedA .capLife).head .a).posOp = none :=
  ⟨⟨rfl, rfl, rfl⟩, by decide +kernel⟩

theorem witness_ConsumablesAreCountedAndWarned :
    HeadId.a ≠ .b ∧ State.reset.link.Free ∧ 4000000 ≤ 4000000 ∧ (State.reset.head .a).state ≠ .active :=
  ⟨by decide, free_reset, by decide, by decide⟩

/-- A state whose strip map queue holds n entries. -/
def mapped (n : Nat) : State :=
  { State.reset with trc := { State.reset.trc with maps := (List.range' 1 n).map fun k => ⟨9, k, 0#192⟩ } }

theorem witness_StripMapsAreQueued :
    State.reset.link.Free ∧ (mapped 8).link.Free ∧ (List.replicate 24 (0xFF : Byte)).length = 24 ∧
      ¬(9 = (mapped 8).trc.inMag.number ∧
        ((mapped 8).trc.inMag.state = .absent ∨ (mapped 8).trc.inMag.slot 8 = .taken)) ∧
      (∃ e ∈ (mapped 8).trc.maps, e.mag = 9 ∧ e.slot = 8) ∧
      (∀ e ∈ (mapped 8).trc.maps, ¬(e.mag = 9 ∧ e.slot = 9)) ∧ (mapped 8).trc.maps.length = 8 ∧
      { State.reset.trc.inMag with number := 1 }.number = 1 ∧ State.reset.trc.inMag.state = .absent :=
  ⟨free_reset, ⟨rfl, rfl, rfl⟩, by decide +kernel⟩

theorem witness_ClassifyCommitsThePull :
    (withPull State.reset).link.Free ∧ 1 < 2 ^ 32 ∧ 1 ≤ 5 ∧ 5 ≤ 5 ∧
      (withPull State.reset).psc.queue.find? (fun p => p.serial == 1) = some staged :=
  ⟨⟨rfl, rfl, rfl⟩, by decide +kernel⟩

theorem witness_PanelKeysActOnTheSelection :
    { State.reset.pnc with selection := .pattern .bars (.slot 0) }.selection = .pattern .bars (.slot 0) ∧
      State.reset.pnc.selection = .view (.slot 0) ∧ State.reset.pnc.lastSlot < 8 := by decide

/-- A state with a selection, a pending timing of another rate class, and one prompt or none. -/
def drawing (x : Selection) (notes : Bool) : State :=
  let s := if notes then withPrompt State.reset .hostNote 1 else { State.reset with pnc := { State.reset.pnc with prompts := [] } }
  { s with pnc := { s.pnc with selection := x, pendingTiming := some { Timing.powerOn with rate := 3 } } }

/-- A template with two fields that overlap. -/
def overlapping : Template := { Template.blank true with fields := [⟨1, 1, 3, 20, 1⟩, ⟨1, 2, 3, 3, 2⟩] }

/-- That template shown in slot 1. -/
def showingFields : State :=
  { State.reset with
    pnc :=
      { State.reset.pnc with
        slots := State.reset.pnc.slots.set 1 (some overlapping), selection := .view (.slot 1), lastSlot := 1 } }

/-- R168: 42 in a DEC field of 4, 16 of 32 in a BAR field of 5, RUN in STATE fields of 4 and 2. -/
theorem test_field_formats :
    fieldCells ⟨1, 1, 4, 3, 1⟩ ⟨42, [], 0⟩ = [.char 0x20, .char 0x20, .char 0x34, .char 0x32] ∧
      fieldCells ⟨1, 1, 5, 14, 3⟩ ⟨16, [], 32⟩ = [.block, .block, .char 0x20, .char 0x20, .char 0x20] ∧
      fieldCells ⟨1, 1, 4, 1, 2⟩ ⟨1, Mode.run.name, 0⟩ = [.char 0x52, .char 0x55, .char 0x4E, .char 0x20] ∧
      fieldCells ⟨1, 1, 2, 1, 2⟩ ⟨1, Mode.run.name, 0⟩ = [.char 0x2A, .char 0x2A] := by decide

/-- The same four, place by place. -/
theorem test_field_places :
    (List.range 4).map (fieldCellAt ⟨1, 1, 4, 3, 1⟩ 42 [] 0) = fieldCells ⟨1, 1, 4, 3, 1⟩ ⟨42, [], 0⟩ ∧
      (List.range 5).map (fieldCellAt ⟨1, 1, 5, 14, 3⟩ 16 [] 32) = fieldCells ⟨1, 1, 5, 14, 3⟩ ⟨16, [], 32⟩ ∧
      (List.range 4).map (fieldCellAt ⟨1, 1, 4, 1, 2⟩ 1 Mode.run.name 0) = fieldCells ⟨1, 1, 4, 1, 2⟩ ⟨1, Mode.run.name, 0⟩ ∧
      (List.range 2).map (fieldCellAt ⟨1, 1, 2, 1, 2⟩ 1 Mode.run.name 0) = fieldCells ⟨1, 1, 2, 1, 2⟩ ⟨1, Mode.run.name, 0⟩ := by
  decide

theorem witness_FrameStartTakesTheTiming_fields :
    (showingFields.pnc.selection = .view (.slot 1) ∧ overlapping.fields = [] ++ ⟨1, 1, 3, 20, 1⟩ :: [⟨1, 2, 3, 3, 2⟩] ∧
      (∀ c ∈ [(⟨1, 2, 3, 3, 2⟩ : ScreenField)], ¬(c.row = 1 ∧ c.col ≤ 1 ∧ 1 < c.col + c.width)) ∧
      (∀ b ∈ overlapping.fields, ¬(b.row = 2 ∧ b.col ≤ 1 ∧ 1 < b.col + b.width)) ∧
      ((drawing (.view (.slot 0)) true).pnc.slots[0]?).bind id = none) ∧
    showingFields.pnc.slots[1]? = some (some overlapping) :=
  ⟨by decide +kernel, by simp [showingFields, State.reset]⟩

theorem witness_FrameStartTakesTheTiming :
    ({ Timing.powerOn with rate := 3 }).rate ≠ (drawing (.view .classify) false).pnc.timing.rate ∧
      (∀ p ∈ [Pattern.bars, .grid, .flat],
        (drawing (.pattern p (.slot 0)) false).pnc.selection = .pattern p (.slot 0)) ∧
      639 < Timing.powerOn.hActive ∧ 479 < Timing.powerOn.vActive ∧ 639 < 8 * (Timing.powerOn.hActive / 8) ∧
      (drawing (.view .classify) false).pnc.prompts = [] ∧
      (drawing (.view (.slot 0)) true).pnc.prompts.head?.map (·.kind) = some .hostNote := by decide +kernel

/-- The supervisor's cell with the quality hold and its prompt. -/
def heldPrompt (supervisor : Bool) : State :=
  let s := withPrompt (held .setup) .qualityHold 0
  { s with pnc := { s.pnc with supervisor := supervisor } }

theorem witness_AckIsTakenByTheRaiser :
    (withPrompt State.reset .hostNote 1).pnc.selection = .view (.slot 0) ∧
      { State.reset.pnc with prompts := [] }.prompts = [] ∧
      ((heldPrompt true).pnc.supervisor = true ∧ (heldPrompt true).cmc.hold.isSome = true) ∧
      (heldPrompt false).pnc.supervisor = false ∧
      ((suspendedA .drive).head .a).state = .suspended ∧ ((suspendedA .drive).head .a).reason.isSome = true ∧
      ((suspendedA .drive).head .a).wireBreak = false ∧ ((suspendedA .drive).head .a).posOp = none ∧
      (withPrompt (suspendedA .drive) .headStop 1).pnc.prompts.head?.map (·.source) = some (headNo .a) ∧
      (withPrompt State.reset .driveStop 3).pnc.prompts.head?.map (·.kind) = some .driveStop := by decide +kernel

/-- DRIVE_STOP of the track on top, INPUT and SEQUENCE stopped or not, in a mode, the first slot of three TAKEN or every one,
the elevator free or not. -/
def stopped (m : Mode) (stop : Bool) (x : InMagState) (all : Bool) (op : Option InOp) (seq : SeqState) : State :=
  let s := withPrompt (cell m .opened) .driveStop 3
  { s with
    trc :=
      { s.trc with
        stopInput := stop, stopSequence := stop, seq := seq, seqStopped := stop, inOp := op
        inMag :=
          { state := x, number := 1, count := 3, scanSlot := none
            slots := if all then Vector.replicate 64 .taken else (Vector.replicate 64 .loaded).set 0 .taken } } }

theorem witness_AckIsTakenByTheRaiser_stopped :
    (∀ m ∈ [Mode.run, .halt], ∀ b ∈ [true, false], ∀ x ∈ [InMagState.absent, .fault], ∀ op ∈ [none, some InOp.push],
      ∀ q ∈ [SeqState.unclamp, .index, .clamp], ∀ all ∈ [true, false],
        let s := stopped m b x all op q
        s.pnc.selection = .view (.slot 0) ∧ s.pnc.prompts.head?.map (fun p => (p.kind, p.source)) = some (.driveStop, 3) ∧
          s.trc.stopInput = b ∧ s.trc.stopSequence = b ∧ s.trc.seqStopped = b ∧ s.cmc.mode = m ∧
          s.trc.inMag.state = x ∧ s.trc.inOp = op ∧ s.trc.seq = q) ∧
    (let g := (stopped .run true .fault false none .index).trc.inMag
     g.slot 2 ≠ .taken ∧ g.slot 1 = .taken ∧ 2 ≤ g.count) ∧
    (let g := (stopped .run true .fault true none .index).trc.inMag
     g.slot 1 = .taken ∧ g.slot 2 = .taken ∧ g.slot 3 = .taken ∧ g.count = 3) := by decide +kernel

/-- R110: at the ACK the rescan starts at the first slot that is not TAKEN, and the stopped INDEX is issued again. -/
theorem test_ack_drive_stop :
    let t := after .ack (stopped .run true .fault false none .index)
    (t.trc.inMag.scanSlot, t.trc.seq, t.trc.seqStopped, t.dlc.queue) =
      (some 2, .index, false, [.inElevator, .indexer]) := by decide +kernel

/-- A state with a blank template in slot 1, shown, its keys to the host or not. -/
def showing (keys : Bool) : State :=
  { State.reset with
    pnc :=
      { State.reset.pnc with
        slots := State.reset.pnc.slots.set 1 (some (.blank keys)), selection := .view (.slot 1), lastSlot := 1 } }

theorem showing_slot (keys : Bool) : (showing keys).pnc.slots[1]? = some (some (Template.blank keys)) := by
  simp [showing, State.reset]

theorem witness_FKeysClassifyOrReport :
    ((classifyView State.reset).pnc.selection = .view .classify ∧ (classifyView State.reset).pnc.latched = some 1 ∧
      (classifyView State.reset).psc.queue.find? (fun p => p.serial == 1) = some staged ∧
      (showing true).pnc.selection = .view (.slot 1) ∧ (showing true).link.notices.length < 16) ∧
    (showing true).pnc.slots[1]? = some (some (Template.blank true)) ∧ (Template.blank true).keysToHost = true ∧
    (showing false).pnc.slots[1]? = some (some (Template.blank false)) ∧ (Template.blank false).keysToHost = false :=
  ⟨by decide +kernel, showing_slot true, rfl, showing_slot false, rfl⟩

theorem witness_InputLevelsAreKept :
    { State.reset.pnc with locked := true }.locked = true ∧ State.reset.pnc.locked = false := by decide

theorem witness_ContactStartsTheWeld :
    HeadId.a ≠ .b ∧ ((bonding .search1).head .a).snapshot = some snapshot ∧
      ((bonding .search1).head .a).phase = some .search1 ∧
      ((1550#16).toNat - snapshot.height .ball) + (snapshot.height .ball - (1550#16).toNat) = (snapshot.set .ball).cw ∧
      (snapshot.set .ball).cw < ((1449#16).toNat - snapshot.height .ball) + (snapshot.height .ball - (1449#16).toNat) ∧
      (bonding .search1).cmc.mode ≠ .halt ∧
      ((withA (bonding .search1) fun x => { x with contactWait := true }).head .a).contactWait = true := by
  decide +kernel

theorem witness_WeldIsMeasured :
    ((bonding .weld2).head .a).snapshot = some snapshot ∧ ((bonding .weld2).head .a).phase = some .weld2 ∧
      ((bonding .check1).head .a).phase ≠ some .weld1 ∧ ((bonding .check1).head .a).phase ≠ some .weld2 := by
  decide +kernel

theorem witness_CheckJudgesTheBond :
    HeadId.a ≠ .b ∧ ((bonding .check1).head .a).snapshot = some snapshot ∧
      ((bonding .check1).head .a).phase = some .check1 ∧ (bonding .check1).cmc.mode ≠ .halt ∧
      ((bonding .check1).head .a).posOp = none ∧
      ((withA (bonding .check1) fun x => { x with posOp := some .stale }).head .a).posOp.isSome = true := by
  decide +kernel

/-- Head A in SPARK after a number of attempts, from where given. -/
def sparking (n : Nat) (source : SparkFrom) : State :=
  withA (bonding .spark) fun x => { x with sparkAttempts := n, sparkFrom := some source, sparkRequest := true }

/-- Head A in SPARK after the first wire of two. -/
def longer : State := { sparking 1 .tail with rs := { recipe with layout := ⟨{ smallLayout with wires := 2 }, true⟩ } }

/-- Head A in SPARK after a wire, its fail count one below the lift limit. -/
def atLimit : State := withA (sparking 1 .tail) fun x => { x with failCount := headOne.liftLimit - 1 }

theorem witness_SparkEndsTheWire :
    (∀ n ∈ [1, 2], ∀ f ∈ [SparkFrom.restart, .tail],
      ((sparking n f).head .a).snapshot = some snapshot ∧ ((sparking n f).head .a).phase = some .spark ∧
        (sparking n f).cmc.mode ≠ .halt ∧ ((sparking n f).head .a).sparkFrom = some f) ∧
      ((sparking 1 .tail).head .a).sparkAttempts < 1 + ((sparking 1 .tail).config .a).retries ∧
      1 + ((sparking 2 .tail).config .a).retries ≤ ((sparking 2 .tail).head .a).sparkAttempts ∧
      ((sparking 1 .restart).head .a).posOp = none ∧
      ((sparking 1 .tail).config .a).liftLimit ≤ min 255 (((atLimit).head .a).failCount + 1) ∧
      min 255 (((sparking 1 .tail).head .a).failCount + 1) < ((sparking 1 .tail).config .a).liftLimit ∧
      (longer.head .a).wireIndex < longer.rs.layout.item.wires := by decide +kernel

/-- A strip at BOND with the unit at row 1, column 1 IN_WORK and the one beside it as given. -/
def working (other : UnitState) : StripRecord :=
  { strip .bond false with units := ((strip .bond false).units.set 0 .inWork).set 1 other }

/-- Head A in SPARK after a wire whose verdicts are GOOD or not, its unit IN_WORK beside a unit of the strip as given. -/
def reporting (good : Bool) (other : UnitState) : State :=
  let s := withA (sparking 2 .tail) fun x =>
    if good then
      { x with
        ball := { x.ball with verdict := some .good }
        stitch := { x.stitch with verdict := some .good, flags := 0b00100000#8 } }
    else x
  { s with stu := { s.stu with strips := [working other] } }

theorem witness_WireEndReportsTheUnit :
    (∀ g ∈ [true, false], ∀ o ∈ [UnitState.pending, .bonded],
      ((reporting g o).head .a).snapshot = some snapshot ∧ ((reporting g o).head .a).phase = some .spark ∧
        (reporting g o).cmc.mode ≠ .halt ∧ ((reporting g o).head .a).sparkFrom ≠ some .restart ∧
        1 + ((reporting g o).config .a).retries ≤ ((reporting g o).head .a).sparkAttempts ∧
        ((reporting g o).head .a).unit = some ⟨7, 1, 1⟩ ∧ snapshot.unit = ⟨7, 1, 1⟩ ∧
        (reporting g o).rs.layout.item.wires ≤ ((reporting g o).head .a).wireIndex) ∧
    (∀ g o, (reporting g o).stu.strips[0]? = some (working o) ∧ (reporting g o).stripAt .bond = some (working o)) ∧
    (∀ o ∈ [UnitState.pending, .bonded], (working o).serial = 7 ∧ (working o).unitAt 1 1 = .inWork ∧
      (working o).complete = false) ∧
    (working .pending).units[1]? = some .pending ∧ 1 ≠ unitIndex 1 1 ∧
    ∀ k < 192, k ≠ unitIndex 1 1 →
      (working .bonded).units[k]? ≠ some .pending ∧ (working .bonded).units[k]? ≠ some .inWork :=
  ⟨by decide +kernel, fun g o => by cases g <;> exact ⟨rfl, rfl⟩, by decide +kernel⟩

/-- R71, R74: the last GOOD wire of the last unit makes it BONDED and the strip complete. -/
theorem test_last_wire_completes_the_strip :
    (match (after (.sparkResult .a true) (reporting true .bonded)).stu.strips with
      | [x] => (x.unitAt 1 1, x.complete, x.good, x.marginalCount)
      | _ => (.pending, false, 0, 0)) = (.bonded, true, 1, 1) := by decide +kernel

theorem witness_WireBreakSuspendsTheHead :
    ((withA State.reset fun x => { x with wireBreak := true }).head .a).wireBreak = true ∧
      (State.reset.head .a).wireBreak = false ∧ (State.reset.head .a).state = .idle ∧
      ((suspendedA .drive).head .a).wireBreak = false ∧ ((bonding .weld1).head .a).state = .active ∧
      ((bonding .weld1).head .a).wireBreak = false ∧ ((bonding .weld1).head .a).snapshot = some snapshot ∧
      (let s := reporting true .pending
       (s.head .a).state = .active ∧ (s.head .a).wireBreak = false ∧ (s.head .a).ball.verdict = some .good ∧
        (s.head .a).stitch.verdict = some .good) := by decide +kernel

/-- The running cell with requests for the band. -/
def asking (last : Option HeadId) (a b : Bool) : State :=
  let s := onTrack .bond false
  { s with stu := { s.stu with request := ⟨a, b⟩, lastHolder := last } }

theorem asking_strip (l : Option HeadId) :
    (asking l true true).stu.strips.find? (fun x => x.station == .bond) = some (strip .bond false) := rfl

/-- That cell with no strip, or with a strip whose units are all aborted. -/
def askingInVain (strips : List StripRecord) : State :=
  let s := asking none true true
  { s with stu := { s.stu with strips := strips } }

/-- A strip whose pool is empty. -/
def worked : StripRecord := { strip .bond false with units := Vector.replicate 192 .aborted }

theorem worked_strip : (askingInVain [worked]).stripAt .bond = some worked := rfl

/-- The first PENDING unit of a pool of one row and two columns: A from the left, B from the right. -/
theorem takes_band (h : HeadId) :
    (strip .bond false).TakesFirst h 1 1 2 1 (match h with | .a => 1 | .b => 2) := by
  cases h
  · exact ⟨by decide, by decide, by decide, by decide, by decide +kernel, fun _ _ _ _ _ _ _ => by simp only; omega⟩
  · exact ⟨by decide, by decide, by decide, by decide, by decide +kernel, fun _ _ _ _ _ _ _ => by simp only; omega⟩

/-- A strip whose units are all aborted has none PENDING. -/
theorem worked_none (rows first last : Nat) : worked.NonePending rows first last := by
  intro row col _ _ _ _
  simp only [StripRecord.unitAt, worked]
  rcases Nat.lt_or_ge (unitIndex row col) 192 with h | h <;> simp [h]

theorem witness_BandGrantGoesInTurn :
    (∀ l, (asking l true true).stu.strips.find? (fun x => x.station == .bond) = some (strip .bond false)) ∧
    (∀ h l, (strip .bond false).TakesFirst h (asking l true true).rs.layout.item.rows
      ((asking l true true).rs.layout.item.a + 1) ((asking l true true).rs.layout.item.b - 1) 1
      (match h with | .a => 1 | .b => 2)) ∧
    (askingInVain []).stripAt .bond = none ∧ (askingInVain [worked]).stripAt .bond = some worked ∧
    worked.NonePending (askingInVain [worked]).rs.layout.item.rows ((askingInVain [worked]).rs.layout.item.a + 1)
      ((askingInVain [worked]).rs.layout.item.b - 1) ∧
    (HeadId.a ≠ .b ∧ (∀ h, ((asking none true true).config h).enabled = true) ∧
      (∀ l ∈ [none, some HeadId.b], (asking l true true).stu.grant = none ∧
        (asking l true true).stu.request.get .a = true ∧ ((asking l true true).head .a).state ≠ .suspended ∧
        ((asking l true true).stu.lastHolder = some .b ∨ (asking l true true).stu.lastHolder = none)) ∧
      (asking (some .a) true true).stu.lastHolder = some .a ∧
      (∀ x ∈ [[], [worked]], (askingInVain x).stu.grant = none ∧ (askingInVain x).stu.request ≠ ⟨false, false⟩) ∧
      (asking none false false).stu.request = ⟨false, false⟩) :=
  ⟨asking_strip, fun h _ => takes_band h, rfl, worked_strip, worked_none _ _ _, by decide,
    fun h => by cases h <;> rfl, by decide +kernel⟩

/-- R68: head B gets the unit of the band's highest column. -/
theorem test_band_grant_b :
    (after .bandGrant (asking (some .a) true true)).heads.b.unit = some ⟨7, 1, 2⟩ := by decide +kernel

/-- Head A READY with its unit, and its head changed further. -/
def readyA (f : Head → Head) : State :=
  withA (onTrack .bond false) fun x => f { x with state := .ready, unit := some ⟨7, 1, 1⟩, wireIndex := 1 }

/-- That state with BOND_A full. -/
def fullBondA : State :=
  let s := readyA id
  { s with rm := { s.rm with bondA := { s.rm.bondA with reserved := 426 } } }

/-- A READY head whose region has refused it, its gates tested again since. -/
def refusedBondA (f : Head → Head) : State :=
  let s := readyA f
  { s with rm := { s.rm with bondA := { s.rm.bondA with waiting := true } } }

/-- R24: a refused head past the capillary life is suspended with CAP_LIFE. -/
theorem test_refused_head_is_suspended :
    let x := (after (.wireStart .a) (refusedBondA fun x => { x with nCap := 999999 })).heads.a
    (x.state, x.reason) = (.suspended, some .capLife) := by decide +kernel

theorem witness_WireStartTakesASnapshot :
    HeadId.a ≠ .b ∧
      (∀ s ∈ [refusedBondA id, refusedBondA fun x => { x with nCap := 999999 },
          refusedBondA fun x => { x with spool := 199999 }],
        (s.head .a).unit = some ⟨7, 1, 1⟩ ∧ (s.head .a).state = .ready ∧ (s.rm.get (bondRegion .a)).waiting = true ∧
          (s.head .a).gate ≠ some .record ∧ s.headGate .a = none) ∧
      (∀ s ∈ [readyA id, readyA fun x => { x with nCap := 999999 }, readyA fun x => { x with spool := 199999 },
          readyA fun x => { x with restartSpark := false }, fullBondA],
        (s.head .a).unit = some ⟨7, 1, 1⟩ ∧ (s.head .a).state = .ready ∧ (s.rm.get (bondRegion .a)).waiting = false ∧
          s.headGate .a = none ∧ (s.head .a).posOp = none) ∧
      headOne.life < 999999 + 2 ∧ 199999 < headOne.spoolReserve * 100000 ∧
      fullBondA.rm.bondA.capacity .bondA ≤ fullBondA.rm.bondA.records.length + fullBondA.rm.bondA.reserved ∧
      (readyA id).rm.bondA.records.length + (readyA id).rm.bondA.reserved < (readyA id).rm.bondA.capacity .bondA := by
  decide +kernel

/-- The running cell with slot 3 of the input magazine LOADED, and room in STRIP or none. -/
def feeding (reserved : Nat) : State :=
  let s := cell .run .opened
  { s with
    trc :=
      { s.trc with
        inMag := { s.trc.inMag with state := .ready, number := 1, slots := s.trc.inMag.slots.set 2 .loaded } }
    rm := { s.rm with strip := { s.rm.strip with reserved := reserved } } }

/-- The running cell with a strip at EXIT and the output magazine as given. -/
def storing (m : OutMagState) : State :=
  let s := onTrack .exit true
  { s with
    trc := { s.trc with outMag := { s.trc.outMag with state := m, number := 1, slots := s.trc.outMag.slots.set 0 .empty } } }

/-- The running cell with the pull station WAITING at the strip's one entry. -/
def pulling (reserved : Nat) : State :=
  let s := onTrack .verify true
  { s with
    psc := { s.psc with state := .waiting, strip := some 7, listLength := 1, next := 1 }
    rm := { s.rm with pull := { s.rm.pull with reserved := reserved } } }

theorem pulling_strip (n : Nat) :
    (pulling n).stu.strips.find? (fun x => x.serial == 7) = some (strip .verify true) := rfl

/-- A memory that has refused STRIP's and PULL's producers. -/
def refusedBoth : State :=
  let r := State.reset.rm
  { State.reset with rm := { r with strip := { r.strip with waiting := true }, pull := { r.pull with waiting := true } } }

theorem witness_FeedStoreAndPullAreHandedOver :
    (∀ n, (pulling n).stu.strips.find? (fun x => x.serial == 7) = some (strip .verify true)) ∧
    (∀ n ∈ [63, 64], (feeding n).trc.inMag.lowestLoaded = some 3 ∧ (feeding n).cmc.mode = .run ∧
      (feeding n).cmc.lot = .opened ∧ (feeding n).stu.fed < 65535 ∧ (feeding n).occupied .load = false ∧
      (feeding n).trc.push = none ∧ (feeding n).trc.seq = .idle ∧ (feeding n).trc.inMag.state = .ready ∧
      (feeding n).trc.stopInput = false ∧ (feeding n).rm.strip.waiting = false ∧ (feeding n).trc.inOp = none) ∧
    (feeding 63).rm.strip.records.length + 63 < (feeding 63).rm.strip.capacity .strip ∧
    (feeding 64).rm.strip.capacity .strip ≤ (feeding 64).rm.strip.records.length + 64 ∧
    (∀ m ∈ [OutMagState.ready, .full], (storing m).cmc.mode = .run ∧ (storing m).occupied .exit = true ∧
      (storing m).trc.store = none ∧ (storing m).trc.stopOutput = false) ∧
    (storing .ready).trc.outMag.lowestEmpty = some 1 ∧ (storing .full).trc.outMag.state ≠ .ready ∧
    (storing .full).pnc.findPrompt .outputChange 0 = none ∧
    (∀ n ∈ [255, 256], (pulling n).psc.state = .waiting ∧ (pulling n).psc.queue.length < 32 ∧
      (pulling n).rm.pull.waiting = false ∧ (pulling n).cmc.mode = .run ∧ (pulling n).psc.strip = some 7) ∧
    (strip .verify true).pullList = some [⟨1, 1, 1, .plan⟩] ∧
    (pulling 255).rm.pull.records.length + 255 < (pulling 255).rm.pull.capacity .pull ∧
    refusedBoth.rm.strip.waiting = true ∧ refusedBoth.rm.pull.waiting = true ∧
    (pulling 256).rm.pull.capacity .pull ≤ (pulling 256).rm.pull.records.length + 256 :=
  ⟨pulling_strip, by decide +kernel⟩

theorem bond_strip : (onTrack .bond true).stripAt .bond = some (strip .bond true) := rfl

/-- A strip at BOND, its work unfinished, under a clamp whose state is UNKNOWN. -/
def reclamping : State :=
  let s := onTrack .bond false
  { s with trc := { s.trc with clamp := .unknown } }

theorem witness_TrackStepsAreTaken :
    (onTrack .bond true).stripAt .bond = some (strip .bond true) ∧ (onTrack .bond true).stripAt .exit = none ∧
    (let s := onTrack .bond true
     s.cmc.mode = .run ∧ s.trc.seq = .idle ∧ s.trc.stopSequence = false ∧
      (s.occupied .load || s.occupied .preheat || s.occupied .bond || s.occupied .verify) = true ∧ s.trc.push = none ∧
      s.heads.a.state ≠ .active ∧ s.heads.b.state ≠ .active ∧
      (strip .bond true).complete = true ∧ s.occupied .verify = false ∧ s.occupied .preheat = false ∧
      s.psc.state ≠ .pulling) ∧
    (let s := cell .drain .closing
     s.cmc.mode = .drain ∧ s.stu.strips = [] ∧ s.trc.push = none) ∧
    (let s := cell .setup .closing
     s.cmc.lot = .closing ∧ s.cmc.mode = .setup ∧ s.stu.strips = [] ∧ s.trc.push = none ∧ s.psc.queue = []) ∧
    (reclamping.occupied .bond = true ∧ reclamping.cmc.mode = .run ∧ reclamping.trc.seq = .idle ∧
      reclamping.trc.stopSequence = false ∧ reclamping.trc.clamp ≠ .closed ∧ reclamping.sequenceReady = false) ∧
    State.reset.cmc.mode ≠ .drain ∧ State.reset.cmc.lot ≠ .closing ∧
    ((cell .drain .closing).cmc.mode ≠ .setup ∧
      { (cell .setup .closing) with stu := (onTrack .bond true).stu }.stu.strips ≠ [] ∧
      (withPull (cell .setup .closing)).psc.queue ≠ []) := ⟨bond_strip, rfl, by decide +kernel⟩

/-- The attention input of the pull drive asserted, no STOP pending. -/
def attending : State :=
  let s := withLine State.reset .free
  s.setDrive .pull { s.dlc.drives.pull with attention := true }

/-- A CLAMP waiting for the indexer. -/
def waiting : State := (withLine State.reset .free).handOver .indexer .clamp

theorem witness_TheLineIsTakenInOrder :
    (State.reset.dlc.line = .free ∧ State.reset.dlc.stopPending = true ∧ (after .stop State.reset).dlc.line = .stop ∧
      (after .stop State.reset).dlc.stopPending = false) ∧
    (attending.dlc.line = .free ∧ attending.dlc.stopPending = false ∧
      (attending.dlc.drives.get .pull).attention = true) ∧
    (∀ e ∈ allDrives, driveAddress e < driveAddress .pull → (attending.dlc.drives.get e).attention = false) ∧
    (waiting.dlc.line = .free ∧ waiting.dlc.stopPending = false ∧ waiting.dlc.queue = [.indexer] ∧
      (waiting.dlc.drives.get .indexer).op = some .clamp) ∧
    (∀ e ∈ allDrives, (waiting.dlc.drives.get e).attention = false) := by decide +kernel

/-- A CLAMP accepted by the indexer. -/
def accepted : State := withLine waiting .free |>.accepted .indexer

theorem witness_AnswersDecideTheOperation :
    (withLine waiting (.command .indexer false)).dlc.line = .command .indexer false ∧
      (withLine waiting (.command .indexer true)).dlc.line = .command .indexer true ∧
      (0x33 : LineChar) ≠ 0x5A ∧ (0x33 : LineChar) ≠ 0xA5 ∧ (accepted.dlc.drives.get .indexer).stage = .outstanding ∧
      (State.reset.dlc.drives.get .indexer).stage ≠ .outstanding := by decide +kernel

/-- A state whose line polls a drive that has sent all of a status frame but its checksum. -/
def polling (s : State) (d : Drive) (kind op : Byte) (results : List Byte) : State :=
  withLine s (.poll d (statusHead kind op results))

/-- That state with an operation OUTSTANDING at the drive. -/
def doing (s : State) (d : Drive) (o : DriveOp) (kind : Byte) (results : List Byte) : State :=
  (polling s d kind o.code results).setDrive d
    { stage := .outstanding, op := some o, acceptAt := 0, timeout := 500, lastFault := ⟨.none, 0, 0⟩, attention := false }

theorem doing_outstanding (s : State) (d : Drive) (o : DriveOp) (k : Byte) (r : List Byte) :
    (doing s d o k r).Outstanding d o := by cases d <;> exact ⟨rfl, rfl⟩

theorem doing_line (s : State) (d : Drive) (o : DriveOp) (k : Byte) (r : List Byte) :
    (doing s d o k r).dlc.line = .poll d (statusHead k o.code r) := rfl

theorem witness_StatusFramesAreJudged :
    (withLine State.reset (.poll .posA [0x01, 0x10, 0x00])).dlc.line = .poll .posA [0x01, 0x10, 0x00] ∧
      (∀ n, ([0x01] ++ [(0x10 : Byte)])[2]? = some n → n.toNat + 4 ≠ [(0x01 : Byte)].length + 1) ∧
      ([0x01, 0x10, 0x00] ++ [(0xEE : Byte)])[2]? = some 0 ∧ (0 : Byte).toNat + 4 = [(0x01 : Byte), 0x10, 0x00].length + 1 ∧
      ([0x01, 0x10, 0x00] ++ [(0xEE : Byte)]).foldl (· + ·) 0 ≠ 0 ∧
      ((0x10 : Byte) ∈ [0x10#8, 0x12, 0x13, 0x14, 0x20, 0x21, 0x22, 0x31, 0x38, 0x50] ∧
        (doing State.reset .posA (.move 0 0) 1 []).dlc.line = .poll .posA (statusHead 1 0x10 []) ∧
        (doing State.reset .posA (.move 0 0) 1 []).Outstanding .posA (.move 0 0)) ∧
      ((doing State.reset .pull (.pull 0 0) 1 [0, 0, 0, 0]).dlc.line = .poll .pull (statusHead 1 0x40 [0, 0, 0, 0]) ∧
        (doing State.reset .pull (.pull 0 0) 1 [0, 0, 0, 0]).Outstanding .pull (.pull 0 0)) ∧
      ((polling State.reset .posA 2 0x70 [9]).dlc.line = .poll .posA (statusHead 2 0x70 [9]) ∧
        ((polling State.reset .posA 2 0x70 [9]).dlc.drives.get .posA).stage ≠ .outstanding) ∧
      (polling State.reset .workHolder 3 0x60 [0x05, 0xDC]).dlc.line =
        .poll .workHolder (statusHead 3 0x60 [0x05, 0xDC]) := by
  refine ⟨rfl, ?_, by decide, by decide, by decide, ⟨by decide, rfl, doing_outstanding ..⟩, ⟨rfl, doing_outstanding ..⟩,
    by decide +kernel, rfl⟩
  intro n h; cases h

/-- Head A in a phase, its positioner's operation OUTSTANDING and current or stale, with the DONE on the line. -/
def phaseDone (p : Phase) (x : PosOp) (o : DriveOp) (results : List Byte) : State :=
  doing (withA (bonding p) fun a => { a with posOp := some x }) .posA o 1 results

theorem witness_PositionerDoneEndsThePhase :
    HeadId.a ≠ .b ∧
    (∀ c ∈ [(Phase.move1, DriveOp.move 0 0, ([] : List Byte)), (.loop, .loop 100 50 1 0 0, []), (.search1, .search 950 1, [0]),
        (.search2, .search 50 1, [1]), (.tail, .tail, []), (.raise, .raise, [])],
      let s := phaseDone c.1 .current c.2.1 c.2.2
      (s.head .a).state = .active ∧ (s.head .a).snapshot = some snapshot ∧ s.cmc.mode ≠ .halt ∧
        (s.head .a).posOp = some .current ∧ (s.head .a).phase = some c.1 ∧ (s.head .a).ball.verdict = none ∧
        s.dlc.line = .poll (positioner .a) (statusHead 1 c.2.1.code c.2.2)) ∧
    (∀ p x o r, (phaseDone p x o r).Outstanding (positioner .a) o) ∧
    (let s := withA (phaseDone .raise .current .raise []) fun x =>
      { x with ball := { x.ball with verdict := some .searchMiss } }
     (s.head .a).ball.verdict = some .searchMiss ∧ (s.head .a).wireBreak = false) ∧
    ((phaseDone .weld1 .stale (.search 950 1) [0]).head .a).posOp = some .stale ∧
    ((phaseDone .weld1 .stale (.search 950 1) [0]).head .a).heldOp = none ∧
    resultLength (DriveOp.search 950 1).code = some [(0 : Byte)].length ∧
    (let s := withA (phaseDone .loop .stale (.search 950 1) [0]) fun x => { x with heldOp := some (.loop 100 50 1 0 0) }
     (s.head .a).posOp = some .stale ∧ (s.head .a).heldOp = some (.loop 100 50 1 0 0)) ∧
    (phaseDone .raise .current .raise []).stu.request.get .b = false :=
  ⟨by decide, by decide +kernel, fun _ _ _ _ => doing_outstanding .., by decide +kernel, by decide +kernel,
    by decide +kernel, by decide, by decide +kernel, by decide +kernel⟩

/-- The running cell with the input magazine, of three slots, and a step at its elevator done. -/
def elevatorDone (op : InOp) (o : DriveOp) (slots : Vector InSlot 64) (results : List Byte) (fed : Nat) : State :=
  let s := cell .run .opened
  doing
    { s with
      stu := { s.stu with fed := fed }
      trc :=
        { s.trc with
          inOp := some op
          push := if op = .push then some (1, 3) else none
          inMag :=
            { state := if op = .push then .ready else .scanning, number := 1, count := 3, slots := slots
              scanSlot := match o with | .scan k => some k | _ => none } } }
    .inElevator o 1 results

/-- Slots of which the second is TAKEN and the third LOADED. -/
def someSlots : Vector InSlot 64 := ((Vector.replicate 64 .unknown).set 1 .taken).set 2 .loaded

theorem witness_InputElevatorDoneScansOrFeeds :
    (∀ k ∈ [1, 3],
      let s := elevatorDone .scan (.scan k) someSlots [1] 0
      s.cmc.mode ≠ .halt ∧ s.trc.inOp = some .scan ∧ s.trc.inMag.scanSlot = some k ∧ 1 ≤ k ∧ k ≤ 64 ∧
        s.dlc.line = .poll .inElevator (statusHead 1 0x30 [boolByte true]) ∧ s.trc.inMag.count = 3) ∧
    (let m := (elevatorDone .scan (.scan 1) someSlots [1] 0).trc.inMag
     m.slot 3 ≠ .taken ∧ m.slot 2 = .taken) ∧
    (∀ fed ∈ [65533, 65534],
      let s := elevatorDone .push (.push 3) someSlots [] fed
      s.cmc.mode ≠ .halt ∧ s.trc.inOp = some .push ∧ s.trc.push = some (1, 3) ∧
        s.dlc.line = .poll .inElevator (statusHead 1 0x31 []) ∧ s.stu.fed = fed ∧ s.cmc.mode = .run ∧
        s.trc.inMag.state ≠ .absent ∧ s.trc.inMag.number = 1 ∧ (s.trc.inMag.setSlot 3 .taken).loaded = 0) ∧
    ∀ op o slots r fed, (elevatorDone op o slots r fed).Outstanding .inElevator o :=
  ⟨by decide +kernel, by decide +kernel, by decide +kernel, fun _ _ _ _ _ => doing_outstanding ..⟩

/-- The running cell with strips at the stations given and a step of the sequence done. -/
def sequenceDone (stations : List Station) (step : SeqState) (o : DriveOp) : State :=
  let s := onTrack .bond true
  doing
    { s with stu := { s.stu with strips := stations.map fun x => strip x true }, trc := { s.trc with seq := step } }
    .indexer o 1 []

/-- INDEX done with an incomplete strip at PREHEAT, both heads IDLE, a and b of the layout as given. -/
def arriving (a b : Nat) (r : StripRecord) : State :=
  let s := sequenceDone [] .index .index
  { s with
    rs := { recipe with layout := ⟨{ smallLayout with a := a, b := b }, true⟩ }
    stu := { s.stu with strips := [{ r with station := .preheat }] } }

/-- The own unit of each head where column 1 is A's and column 2 is B's. -/
theorem takes_own (h : HeadId) (x : Station) :
    (strip x false).TakesFirst h 1 (match h with | .a => 1 | .b => 2) (match h with | .a => 1 | .b => 2) 1
      (match h with | .a => 1 | .b => 2) := by
  cases h
  · exact ⟨by decide, by decide, by decide, by decide, by cases x <;> decide +kernel,
      fun _ _ _ _ _ _ _ => by simp only at *; omega⟩
  · exact ⟨by decide, by decide, by decide, by decide, by cases x <;> decide +kernel,
      fun _ _ _ _ _ _ _ => by simp only at *; omega⟩

/-- R66, R67: an arriving strip gives A its column 1 and B its column 2. -/
theorem test_index_gives_own_units :
    let t := after (statusEnd 1 0x21 []) (arriving 1 2 (strip .preheat false))
    (t.heads.a.unit, t.heads.b.unit) = (some ⟨7, 1, 1⟩, some ⟨7, 1, 2⟩) := by decide +kernel

theorem witness_SequenceStepsFollowEachOther :
    (∀ c ∈ [(SeqState.unclamp, DriveOp.unclamp, (0x20 : Byte)), (.index, .index, 0x21), (.clamp, .clamp, 0x22)],
      let s := sequenceDone [.load, .preheat, .verify] c.1 c.2.1
      s.trc.seqStopped = false ∧ s.trc.seq = c.1 ∧ s.dlc.line = .poll .indexer (statusHead 1 c.2.2 [])) ∧
    (sequenceDone [.load, .preheat, .verify] .index .index).occupied .preheat = true ∧
    (sequenceDone [.bond] .index .index).occupied .preheat = false ∧
    (∀ l x o, (sequenceDone l x o).Outstanding .indexer o) ∧
    ((∀ c ∈ [(1, 2, strip .preheat false), (0, 3, strip .preheat false), (0, 3, { worked with station := .preheat })],
        let s := arriving c.1 c.2.1 c.2.2
        s.trc.seqStopped = false ∧ s.trc.seq = .index ∧ s.dlc.line = .poll .indexer (statusHead 1 0x21 []) ∧
          s.cmc.mode = .run ∧ s.rs.layout.item.a < s.rs.layout.item.b ∧ s.rs.layout.item.a ≤ s.rs.layout.item.cols ∧
          s.rs.layout.item.b ≤ s.rs.layout.item.cols + 1 ∧ s.rs.layout.item.cols ≤ 24 ∧ s.stu.request = ⟨false, false⟩ ∧ c.2.2.complete = false) ∧
      ∀ a b r, (arriving a b r).Outstanding .indexer .index ∧
        (arriving a b r).stripAt .preheat = some { r with station := .preheat } ∧
        ∀ h, ((arriving a b r).head h).state = .idle ∧ ((arriving a b r).config h).enabled = true) ∧
    ((∀ h x, (strip x false).TakesFirst h 1 (match h with | .a => 1 | .b => 2) (match h with | .a => 1 | .b => 2) 1
        (match h with | .a => 1 | .b => 2)) ∧
      (∀ r : StripRecord, r.NonePending 1 1 0 ∧ r.NonePending 1 3 2) ∧
      (∀ x, ¬(strip x false).NonePending 1 1 2) ∧ ∀ rows first last, worked.NonePending rows first last) :=
  ⟨by decide +kernel, by decide +kernel, by decide +kernel, fun _ _ _ => doing_outstanding ..,
    ⟨by decide +kernel, fun _ _ _ => ⟨doing_outstanding .., rfl, fun h => by cases h <;> exact ⟨rfl, rfl⟩⟩⟩, takes_own,
    fun _ => ⟨fun _ _ _ _ => by omega, fun _ _ _ _ => by omega⟩,
    fun x h => h 1 1 (by decide) (by decide) (by decide) (by decide) (by cases x <;> decide +kernel), worked_none⟩

/-- A strip at EXIT stored in slot 1 of output magazine 1, the magazine as given. -/
def storeDone (m : OutMagState) : State :=
  let s := storing m
  doing { s with trc := { s.trc with store := some (1, 1) } } .outElevator (.store 1) 1 []

theorem stored_strip (m : OutMagState) : (storeDone m).stripAt .exit = some (strip .exit true) := rfl

theorem witness_StoreDoneCommitsTheSummary :
    (∀ m, (storeDone m).trc.store = some (1, 1) ∧ (storeDone m).stripAt .exit = some (strip .exit true) ∧
      (storeDone m).Outstanding .outElevator (.store 1) ∧
      (storeDone m).dlc.line = .poll .outElevator (statusHead 1 0x38 []) ∧ (storeDone m).trc.outMag.number = 1 ∧
      (storeDone m).trc.outMag.state = m) ∧
    OutMagState.ready ≠ .absent :=
  ⟨fun m => ⟨rfl, stored_strip m, doing_outstanding .., rfl, rfl, rfl⟩, by decide⟩

/-- The last or not the last pull of a strip done with 256 and 512, under a plan that asks for a force. -/
def pullDone (length fMin : Nat) : State :=
  let s := pulling 256
  doing
    { s with
      psc := { s.psc with state := .pulling, flight := some ⟨⟨1, 1, 1, .plan⟩, 0, 0⟩, listLength := length }
      rs := { s.rs with plan := { s.rs.plan with fMin := fMin } } }
    .pull (.pull 0 0) 1 [1, 0, 2, 0]

theorem witness_PullDoneStagesTheRecord :
    ∀ length fMin, (pullDone length fMin).psc.state = .pulling ∧
      (pullDone length fMin).psc.flight = some ⟨⟨1, 1, 1, .plan⟩, 0, 0⟩ ∧ (pullDone length fMin).psc.strip = some 7 ∧
      (pullDone length fMin).Outstanding .pull (.pull 0 0) ∧
      (pullDone length fMin).dlc.line = .poll .pull (statusHead 1 0x40 [1, 0, 2, 0]) ∧
      (pullDone length fMin).psc.next = 1 ∧ (pullDone length fMin).psc.listLength = length ∧
      (pullDone length fMin).psc.queue = [] ∧ (pullDone length fMin).cmc.hold = none :=
  fun _ _ => ⟨rfl, rfl, rfl, doing_outstanding .., rfl, rfl, rfl, rfl, rfl⟩

/-- FAULT 9 of an operation OUTSTANDING in a state. -/
def faulting (s : State) (d : Drive) (o : DriveOp) : State := doing s d o 2 [9]

theorem witness_FaultEndsTheOperation :
    (∀ s d o, (faulting s d o).Outstanding d o ∧ (faulting s d o).dlc.line = .poll d (statusHead 2 o.code [9])) ∧
    (let s := faulting (phaseDone .move1 .current (.move 0 0) []) .posA (.move 0 0)
     s.cmc.mode ≠ .halt ∧ Drive.posA = positioner .a ∧ (s.head .a).state = .active ∧
      (s.head .a).snapshot = some snapshot) ∧
    (let s := faulting (elevatorDone .scan (.scan 1) someSlots [1] 0) .inElevator (.scan 1)
     s.trc.inOp = some .scan ∧ s.trc.inMag.scanSlot = some 1 ∧ s.trc.driveStopRaised = false) ∧
    (let s := faulting (elevatorDone .push (.push 3) someSlots [] 0) .inElevator (.push 3)
     s.trc.inOp = some .push ∧ s.trc.push = some (1, 3) ∧ s.trc.inMag.state ≠ .absent ∧ s.trc.inMag.number = 1) ∧
    (let s := faulting (sequenceDone [.bond] .index .index) .indexer .index
     s.trc.seq ≠ .idle ∧ s.trc.seqStopped = false) ∧
    (let s := faulting (storeDone .ready) .outElevator (.store 1)
     s.trc.store = some (1, 1) ∧ s.trc.outMag.state ≠ .absent ∧ s.trc.outMag.number = 1) ∧
    (let s := faulting (pullDone 1 0) .pull (.pull 0 0)
     s.psc.state = .pulling ∧ s.psc.flight = some ⟨⟨1, 1, 1, .plan⟩, 0, 0⟩ ∧ s.psc.strip = some 7) ∧
    (faulting State.reset .workHolder (.setTemp 1500)).trc.setTempWaiting = [] :=
  ⟨fun _ _ _ => ⟨doing_outstanding .., rfl⟩, by decide +kernel⟩

/-- An input magazine in a state, an operation or none still OUTSTANDING, and its report on the line. -/
def inputReport (m : Mode) (x : InMagState) (op : Option InOp) (present : Bool) : State :=
  let s := cell m .opened
  polling { s with trc := { s.trc with inOp := op, inMag := { s.trc.inMag with state := x, number := 255 } } } .inElevator 3
    0x61 [boolByte present]

theorem witness_InputMagazineReportsAreTaken :
    ∀ m ∈ [Mode.halt, .setup], ∀ x ∈ [InMagState.absent, .ready], ∀ op ∈ [none, some InOp.push], ∀ p ∈ [true, false],
      1 ≤ (inputReport m x op p).rs.track.item.inSlots ∧
        (inputReport m x op p).dlc.line = .poll .inElevator (statusHead 3 0x61 [boolByte p]) ∧
        (inputReport m x op p).trc.inMag.state = x ∧ (inputReport m x op p).trc.inOp = op ∧
        (inputReport m x op p).cmc.mode = m := by decide +kernel

/-- An output magazine in a state, a strip at EXIT, and its report on the line. -/
def outputReport (x : OutMagState) (present : Bool) : State :=
  polling (storing x) .outElevator 3 0x61 [boolByte present]

theorem witness_OutputMagazineReportsAreTaken :
    ∀ x ∈ [OutMagState.absent, .ready], ∀ p ∈ [true, false],
      (outputReport x p).dlc.line = .poll .outElevator (statusHead 3 0x61 [boolByte p]) ∧
        (outputReport x p).trc.outMag.state = x ∧ (outputReport x p).occupied .exit = true ∧
        (outputReport x p).trc.store = none := by decide +kernel

theorem witness_EveryStepKeepsTheRules :
    (match step (cell .run .opened) with
      | .next t => t.holdRule && t.haltRule && t.queueRule
      | _ => false) = true ∧
      (cell .run .opened).holdRule = true ∧ (cell .run .opened).haltRule = true ∧
      (cell .run .opened).queueRule = true ∧ (cell .run .opened).layoutRule ∧
      (cell .run .opened).rs.layout.loaded = true := by
  unfold State.layoutRule Layout.InRange; decide +kernel

theorem witness_ConditionsAreSticky :
    (∀ c ∈ [Instr.ack, .identify 7 [], .frameSent, .linkByteReceived 0 true],
      (∀ p, c ≠ .powerOnReset p) ∧ c ≠ .warmRestartReset) ∧
    (∀ f, (Instr.identify 7 []).frame = some f → f.code ≠ 0x10#8) ∧
    (∀ f ∈ (busyLink 4).link.rxQueue, f.code ≠ 0x10#8) ∧
    (receiving (.crc 2 [1, 7] (some 0))).link.rx = .crc 2 (1 :: [7]) (some 0) ∧ (1 : Byte) ≠ 0x10#8 ∧
    runs State.reset = true ∧ State.reset.cmc.conditions.getLsbD 0 = true := by
  refine ⟨?_, ?_, by decide +kernel, rfl, by decide, by decide +kernel, by decide +kernel⟩
  · intro c h
    simp only [List.mem_cons, List.not_mem_nil, or_false] at h
    rcases h with rfl | rfl | rfl | rfl <;> exact ⟨(fun p h => nomatch h), (fun h => nomatch h)⟩
  · intro f h
    cases h
    decide

end Sys2Proof.Tests
end

section
/-! PROOFS. The step: the front command, or one millisecond on an empty queue (00_scope.md). -/

namespace Sys2Proof.Machine

open Sys2Proof

/-- The queue's rest, and not the whole queue, is what the command taken sees (log 2). -/
theorem step_of_pending_cons {s : State} {c : Instr} {rest : List Instr} (h : s.pending = c :: rest) :
    step s = exec c { s with pending := rest } := by
  rw [step, h]

theorem step_of_pending_nil {s : State} (h : s.pending = []) : step s = .next s.tick := by
  rw [step, h]

/-- Of the four uses of the line only the STOP transfer ends by itself (R127, log 10). -/
theorem LineState.afterStop_eq_ite (l : LineState) : l.afterStop = if l = .stop then .free else l := by
  cases l with
  | stop => rfl
  | free | command | poll => simp [LineState.afterStop]

/-- The millisecond written out on the state's records: cell time and line move, then the transmitter chooses. -/
theorem State.tick_eq (s : State) :
    s.tick =
      ({ s with
        cmc := { s.cmc with cellTime := (s.cmc.cellTime + 1) % 2 ^ 32 }
        dlc := { s.dlc with line := if s.dlc.line = .stop then .free else s.dlc.line } } : State).txChoose := by
  rw [State.tick, LineState.afterStop_eq_ite]
  rfl

/-- Settles O1: the two branches of step, one for each form of the queue. -/
theorem stepRunsTheFrontCommand : Obligations.StepRunsTheFrontCommand := by
  unfold Obligations.StepRunsTheFrontCommand
  constructor
  case left =>
    intro c rest s
    exact step_of_pending_cons rfl
  case right =>
    intro s idle
    rw [step_of_pending_nil idle, State.tick_eq]

end Sys2Proof.Machine
end

section
/-! PROOFS. The consumables of a head: capillary count, spool, feed pulses and their warnings (5.2, 5.3). -/

namespace Sys2Proof.Machine.Consumables

open Sys2Proof

/-! ## Pairs -/

theorem set_get_self {α : Type} (p : PerHead α) (h : HeadId) : p.set h (p.get h) = p := by
  cases h <;> rfl

theorem set_set {α : Type} (p : PerHead α) (h : HeadId) (x y : α) : (p.set h x).set h y = p.set h y := by
  cases h <;> rfl

theorem get_set_self {α : Type} (p : PerHead α) (h : HeadId) (x : α) : (p.set h x).get h = x := by
  cases h <;> rfl

theorem get_set_of_ne {α : Type} (p : PerHead α) {h g : HeadId} (x : α) (hg : h ≠ g) :
    (p.set h x).get g = p.get g := by
  cases h <;> cases g
  case a.a | b.b => exact absurd rfl hg
  case a.b | b.a => rfl

theorem head_of_heads {s t : State} {h : HeadId} {x : Head} (e : t.heads = s.heads.set h x) : t.head h = x := by
  rw [State.head, e, get_set_self]

theorem config_of_rs {s t : State} (h : HeadId) (e : t.rs = s.rs) : t.config h = s.config h := by
  rw [State.config, State.config, e]

/-! ## The two warnings judged and re-armed (R82, R83, R88) -/

/-- A judgement can only disarm the capillary warning. -/
theorem judgeCap_heads (s : State) (h : HeadId) :
    (s.judgeCap h).heads =
      s.heads.set h
        { s.head h with
          capArmed := (s.head h).capArmed && decide ((s.head h).nCap < (s.config h).warningLevel) } := by
  simp only [State.judgeCap]
  split
  case isTrue due =>
    have reached : ¬(s.head h).nCap < (s.config h).warningLevel := Nat.not_lt.mpr due.2
    simp [reached]
  case isFalse notDue =>
    have same : ((s.head h).capArmed && decide ((s.head h).nCap < (s.config h).warningLevel)) =
        (s.head h).capArmed := by
      cases armed : (s.head h).capArmed <;> simp_all
    rw [same]
    exact (set_get_self s.heads h).symm

theorem rearmCap_heads (s : State) (h : HeadId) :
    (s.rearmCap h).heads =
      s.heads.set h
        { s.head h with capArmed := decide ((s.head h).nCap < (s.config h).warningLevel) } := by
  have armed : (((s.setHead h { s.head h with capArmed := true }).removePrompt .capWarning (headNo h))).head h =
      { s.head h with capArmed := true } := head_of_heads (s := s) (by simp)
  rw [State.rearmCap, judgeCap_heads, armed, config_of_rs (s := s) h (by simp)]
  simp only [State.removePrompt_heads, State.setHead_heads, set_set, Bool.true_and]

/-- A judgement can only disarm the spool warning. -/
theorem judgeSpool_heads (s : State) (h : HeadId) :
    (s.judgeSpool h).heads =
      s.heads.set h
        { s.head h with
          spoolArmed := (s.head h).spoolArmed && decide ((s.config h).lowPulses ≤ (s.head h).spool) } := by
  simp only [State.judgeSpool]
  split
  case isTrue due =>
    have reached : ¬(s.config h).lowPulses ≤ (s.head h).spool := Nat.not_le.mpr due.2
    simp [reached]
  case isFalse notDue =>
    have same : ((s.head h).spoolArmed && decide ((s.config h).lowPulses ≤ (s.head h).spool)) =
        (s.head h).spoolArmed := by
      cases armed : (s.head h).spoolArmed <;> simp_all
    rw [same]
    exact (set_get_self s.heads h).symm

theorem rearmSpool_heads (s : State) (h : HeadId) :
    (s.rearmSpool h).heads =
      s.heads.set h
        { s.head h with spoolArmed := decide ((s.config h).lowPulses ≤ (s.head h).spool) } := by
  have armed : (((s.setHead h { s.head h with spoolArmed := true }).removePrompt .spoolLow (headNo h))).head h =
      { s.head h with spoolArmed := true } := head_of_heads (s := s) (by simp)
  rw [State.rearmSpool, judgeSpool_heads, armed, config_of_rs (s := s) h (by simp)]
  simp only [State.removePrompt_heads, State.setHead_heads, set_set, Bool.true_and]

/-! ## What stays when one head's consumables change -/

/-- From s to t at most one head's record, the event region, the conditions, the panel and the link have changed. -/
structure OnlyHead (h : HeadId) (s t : State) : Prop where
  other : ∀ g, h ≠ g → t.head g = s.head g
  mode : t.cmc.mode = s.cmc.mode
  hold : t.cmc.hold = s.cmc.hold
  rs : t.rs = s.rs
  stu : t.stu = s.stu
  trc : t.trc = s.trc
  dlc : t.dlc = s.dlc
  psc : t.psc = s.psc
  region : ∀ i, i ≠ .event → t.rm.get i = s.rm.get i
  pending : t.pending = s.pending

/-- A quiet operation that replaces one head's record. -/
theorem OnlyHead.of_quiet {h : HeadId} {s t : State} {x : Head} (q : t.quiet = s.quiet)
    (heads : t.heads = s.heads.set h x) (stu : t.stu = s.stu) (trc : t.trc = s.trc) (dlc : t.dlc = s.dlc)
    (psc : t.psc = s.psc) (region : ∀ i, i ≠ .event → t.rm.get i = s.rm.get i) : OnlyHead h s t where
  other g hg := by rw [State.head, heads, get_set_of_ne _ _ hg]; rfl
  mode := State.quiet_mode q
  hold := State.quiet_hold q
  rs := State.quiet_rs q
  stu := stu
  trc := trc
  dlc := dlc
  psc := psc
  region := region
  pending := State.quiet_pending q

theorem OnlyHead.trans {h : HeadId} {s t u : State} (k : OnlyHead h s t) (l : OnlyHead h t u) : OnlyHead h s u where
  other g hg := (l.other g hg).trans (k.other g hg)
  mode := l.mode.trans k.mode
  hold := l.hold.trans k.hold
  rs := l.rs.trans k.rs
  stu := l.stu.trans k.stu
  trc := l.trc.trans k.trc
  dlc := l.dlc.trans k.dlc
  psc := l.psc.trans k.psc
  region i hi := (l.region i hi).trans (k.region i hi)
  pending := l.pending.trans k.pending

theorem txChoose_onlyHead (h : HeadId) (s : State) : OnlyHead h s s.txChoose := by
  constructor <;> simp

theorem answered_onlyHead (h : HeadId) (s : State) (f : Frame) : OnlyHead h s (s.answered f) := by
  constructor <;> simp

/-- A request's handler works between the transmitter's two choices (R197, R199). -/
theorem OnlyHead.answered {h : HeadId} {s t : State} (k : OnlyHead h s.txChoose t) (f : Frame) :
    OnlyHead h s (t.answered f) :=
  ((txChoose_onlyHead h s).trans k).trans (answered_onlyHead h t f)

/-! ## A capillary count taken (R85) -/

/-- The count taken and its warning judged, before the event is written. -/
def countCapillary (s : State) (h : HeadId) (n : Nat) : State :=
  if n < (s.config h).warningLevel then (s.setHead h { s.head h with nCap := n }).rearmCap h
  else (s.setHead h { s.head h with nCap := n }).judgeCap h

theorem setCapillary_eq (s : State) (h : HeadId) (n : Nat) :
    s.setCapillary h n = (countCapillary s h n).writeEvent .capChanged (sourceHead h) n := rfl

theorem countCapillary_quiet (s : State) (h : HeadId) (n : Nat) : (countCapillary s h n).quiet = s.quiet := by
  unfold countCapillary
  split <;> simp

theorem countCapillary_rm (s : State) (h : HeadId) (n : Nat) : (countCapillary s h n).rm = s.rm := by
  unfold countCapillary
  split <;> simp

theorem setCapillary_heads (s : State) (h : HeadId) (n : Nat) :
    (s.setCapillary h n).heads =
      s.heads.set h { s.head h with nCap := n, capArmed := decide (n < (s.config h).warningLevel) } := by
  have config : (s.setHead h { s.head h with nCap := n }).config h = s.config h := config_of_rs h (by simp)
  rw [setCapillary_eq, State.writeEvent_heads, countCapillary]
  split
  case isTrue below => simp only [rearmCap_heads, config, State.setHead_head, State.setHead_heads, set_set]
  case isFalse reached =>
    simp only [judgeCap_heads, config, State.setHead_head, State.setHead_heads, set_set, reached, decide_false,
      Bool.and_false]

theorem setCapillary_onlyHead (s : State) (h : HeadId) (n : Nat) : OnlyHead h s (s.setCapillary h n) := by
  refine .of_quiet (State.setCapillary_quiet s h n) (setCapillary_heads s h n) ?_ ?_ ?_ ?_ fun i hi => ?region
  case region => rw [setCapillary_eq, State.writeEvent_region _ _ _ _ i hi, countCapillary_rm]
  all_goals
    rw [setCapillary_eq, countCapillary]
    split <;> simp

theorem setCapillary_event (s : State) (h : HeadId) (n : Nat) :
    ∃ lost, (s.setCapillary h n).rm.event.records.getLast? =
      some (.event ⟨s.rm.event.nextSerial, s.cmc.cellTime, .capChanged, sourceHead h, n, lost⟩) := by
  have written := State.writeEvent_last (countCapillary s h n) .capChanged (sourceHead h) n
  rwa [countCapillary_rm, State.quiet_cellTime (countCapillary_quiet s h n)] at written

/-! ## A full spool taken (R90) -/

theorem lowPulses_le_fullPulses_iff (c : HeadConfig) : c.lowPulses ≤ c.fullPulses ↔ c.spoolLow ≤ c.spoolSize :=
  Nat.mul_le_mul_right_iff (by decide)

theorem fillSpool_heads (s : State) (h : HeadId) :
    (s.fillSpool h).heads =
      s.heads.set h
        { s.head h with
          spool := (s.config h).fullPulses
          spoolArmed := decide ((s.config h).spoolLow ≤ (s.config h).spoolSize) } := by
  have config (x : Head) : (s.setHead h x).config h = s.config h := config_of_rs h (by simp)
  simp only [State.fillSpool, State.writeEvent_heads, rearmSpool_heads, config, State.setHead_head,
    State.setHead_heads, set_set, lowPulses_le_fullPulses_iff]

theorem fillSpool_onlyHead (s : State) (h : HeadId) : OnlyHead h s (s.fillSpool h) := by
  refine .of_quiet (State.fillSpool_quiet s h) (fillSpool_heads s h) ?_ ?_ ?_ ?_ fun i hi => ?region
  case region => rw [State.fillSpool, State.writeEvent_region _ _ _ _ i hi, State.rearmSpool_rm, State.setHead_rm]
  all_goals simp [State.fillSpool]

theorem fillSpool_event (s : State) (h : HeadId) :
    ∃ lost, (s.fillSpool h).rm.event.records.getLast? =
      some
        (.event
          ⟨s.rm.event.nextSerial, s.cmc.cellTime, .spoolLoaded, sourceHead h, (s.config h).fullPulses, lost⟩) := by
  have written := State.writeEvent_last
    ((s.setHead h { s.head h with spool := (s.config h).fullPulses }).rearmSpool h) .spoolLoaded (sourceHead h)
    (s.config h).fullPulses
  rwa [State.rearmSpool_rm, State.setHead_rm, State.quiet_cellTime (State.rearmSpool_quiet _ h), State.setHead_cmc]
    at written

/-! ## A feed pulse (R86) -/

/-- The head's record with one pulse off its spool, counted into the wire it is bonding. -/
def pulsed (x : Head) : Head :=
  { x with
    spool := x.spool - 1
    wireFeed := if x.state = .active then min 65535 (x.wireFeed + 1) else x.wireFeed }

theorem exec_feedPulse (h : HeadId) (s : State) :
    exec (.feedPulse h) s = .next ((s.setHead h (pulsed (s.head h))).judgeSpool h).txChoose := rfl

theorem pulsed_judgeSpool_heads (s : State) (h : HeadId) :
    ((s.setHead h (pulsed (s.head h))).judgeSpool h).heads =
      s.heads.set h
        { pulsed (s.head h) with
          spoolArmed := (s.head h).spoolArmed && decide ((s.config h).lowPulses ≤ (s.head h).spool - 1) } := by
  rw [judgeSpool_heads, config_of_rs (s := s) h (by simp), State.setHead_head, State.setHead_heads, set_set]
  rfl

theorem pulsed_judgeSpool_onlyHead (s : State) (h : HeadId) :
    OnlyHead h s ((s.setHead h (pulsed (s.head h))).judgeSpool h) :=
  .of_quiet (by simp) (pulsed_judgeSpool_heads s h) (by simp) (by simp) (by simp) (by simp) (by simp)

/-! ## The two requests on a free link (R197) -/

/-- A request on a free link is answered with what its handler gives. -/
theorem request_of_handler {code : Nat} {handler : Payload → State → State × Payload} {payload reply : Payload}
    {s t : State} (tag : Byte) (free : s.link.Free) (fits : payload.length ≤ 248)
    (owner : handlerOf (byte code).toNat = some handler) (handled : handler payload s.txChoose = (t, reply)) :
    request code tag payload s = .next (t.answered ⟨replyCode (byte code), tag, reply⟩) := by
  rw [request_free code tag payload s free fits]
  simp only [State.dispatch, State.handle, owner, handled, State.answered]

theorem headOf_byte_headNo (h : HeadId) : headOf (byte (headNo h)).toNat = some h := by
  cases h <;> rfl

/-- The payload of a request taken is the status OK alone (R198). -/
theorem replyOk_nil : replyOk [] = [0x00] := rfl

theorem exec_setCapillaryCount (tag : Byte) (payload : Payload) (s : State) :
    exec (.setCapillaryCount tag payload) s = request 0x22 tag payload s := rfl

theorem exec_loadSpool (tag : Byte) (payload : Payload) (s : State) :
    exec (.loadSpool tag payload) s = request 0x23 tag payload s := rfl

theorem exec_setCapillaryCount_free (tag : Byte) {h : HeadId} {s : State} {n : Nat} (free : s.link.Free)
    (range : n ≤ 4000000) (idle : (s.head h).state ≠ .active) :
    exec (.setCapillaryCount tag (byte (headNo h) :: beBytes 4 n)) s =
      .next ((s.txChoose.setCapillary h n).answered ⟨0x62, tag, [0x00]⟩) := by
  have value : beNat (beBytes 4 n) = n := beNat_beBytes_of_lt 4 n (by omega)
  rw [exec_setCapillaryCount]
  refine request_of_handler tag free (by simp) rfl ?_
  simp [handleSetCapillaryCount, headOf_byte_headNo, value, Nat.not_lt.mpr range, idle, taken, replyOk_nil]

theorem exec_loadSpool_free (tag : Byte) {h : HeadId} {s : State} (free : s.link.Free)
    (idle : (s.head h).state ≠ .active) :
    exec (.loadSpool tag [byte (headNo h)]) s = .next ((s.txChoose.fillSpool h).answered ⟨0x63, tag, [0x00]⟩) := by
  rw [exec_loadSpool]
  refine request_of_handler tag free (by simp) rfl ?_
  simp [handleLoadSpool, withHead, headOf_byte_headNo, idle, taken, replyOk_nil]

/-- Settles O30: each command is one operation on one head's record, and the operation's own lemmas give its record, its
event and what stays. -/
theorem consumablesAreCountedAndWarned : Obligations.ConsumablesAreCountedAndWarned := by
  unfold Obligations.ConsumablesAreCountedAndWarned
  intro tag h g s hg
  refine ⟨fun n free range idle => ?capillary, fun free idle => ?spool, ?pulse⟩
  case capillary =>
    have kept := (setCapillary_onlyHead s.txChoose h n).answered ⟨0x62, tag, [0x00]⟩
    refine ⟨_, exec_setCapillaryCount_free tag free range idle, State.answered_answers _ _, ?record, ?event,
      kept.region .bondA (by decide), kept.region .bondB (by decide), kept.region .pull (by decide),
      kept.region .strip (by decide), kept.other g hg, kept.mode, kept.hold, kept.rs, kept.stu, kept.trc, kept.dlc,
      kept.psc, kept.pending⟩
    case record =>
      rw [State.answered_head, head_of_heads (setCapillary_heads s.txChoose h n), State.txChoose_head,
        config_of_rs h s.txChoose_rs]
      rfl
    case event => simpa using setCapillary_event s.txChoose h n
  case spool =>
    have kept := (fillSpool_onlyHead s.txChoose h).answered ⟨0x63, tag, [0x00]⟩
    refine ⟨_, exec_loadSpool_free tag free idle, State.answered_answers _ _, ?record, ?event,
      kept.region .bondA (by decide), kept.region .bondB (by decide), kept.region .pull (by decide),
      kept.region .strip (by decide), kept.other g hg, kept.mode, kept.hold, kept.rs, kept.stu, kept.trc, kept.dlc,
      kept.psc, kept.pending⟩
    case record =>
      rw [State.answered_head, head_of_heads (fillSpool_heads s.txChoose h), State.txChoose_head,
        config_of_rs h s.txChoose_rs]
      rfl
    case event =>
      have written := fillSpool_event s.txChoose h
      rw [config_of_rs h s.txChoose_rs] at written
      simpa [HeadConfig.fullPulses, Config.pulsesPerMetre] using written
  case pulse =>
    have kept := (pulsed_judgeSpool_onlyHead s h).trans (txChoose_onlyHead h _)
    refine ⟨_, exec_feedPulse h s, ?record, kept.other g hg, kept.mode, kept.hold, kept.rs, kept.stu, kept.trc,
      kept.dlc, kept.psc, by simp, kept.pending⟩
    case record =>
      rw [State.txChoose_head, head_of_heads (pulsed_judgeSpool_heads s h)]
      rfl

end Sys2Proof.Machine.Consumables
end

section
/-! PROOFS. The Drive Line: which transfer takes the line (R127), what an answer, a missing answer and an expired timer do
(R122, R123). -/

namespace Sys2Proof.Machine.DriveLine

open Sys2Proof

/-! ## The frames the DLC sends (R121) -/

theorem addressChar_driveAddress (d : Drive) : addressChar (driveAddress d) = BitVec.ofNat 9 (256 + driveAddress d) := by
  cases d <;> rfl

theorem stopFrame : commandFrame 0 0x7F [] = [0x100, 0x7F, 0x00, 0x81] := rfl

theorem pollFrame (d : Drive) :
    commandFrame (driveAddress d) 0x70 [] = [BitVec.ofNat 9 (256 + driveAddress d), 0x70, 0x00, 0x90] := by
  rw [commandFrame, addressChar_driveAddress]
  rfl

/-- The checksum of a command frame. -/
def checksum (op : Byte) (args : List Byte) : Byte := 0 - byteSum (op :: byte args.length :: args)

theorem commandBody_eq (op : Byte) (args : List Byte) :
    commandBody op args = op :: byte args.length :: (args ++ [checksum op args]) := rfl

theorem byteSum_commandBody (op : Byte) (args : List Byte) : byteSum (commandBody op args) = 0 := by
  have body : commandBody op args = (op :: byte args.length :: args) ++ [checksum op args] := rfl
  rw [body, byteSum_snoc, checksum]
  generalize byteSum (op :: byte args.length :: args) = sum
  bv_omega

/-! ## The arbiter's choice (R127) -/

theorem afterStop_eq_free {l : LineState} (h : l = .free ∨ l = .stop) : l.afterStop = .free := by
  rcases h with rfl | rfl <;> rfl

/-- The drives before a drive in the arbiter's order are those with a lower address. -/
theorem allDrives_eq_append (d : Drive) :
    ∃ before after, allDrives = before ++ d :: after ∧ ∀ e ∈ before, driveAddress e < driveAddress d := by
  refine ⟨allDrives.take (driveAddress d - 1), allDrives.drop (driveAddress d), ?_⟩
  cases d <;> decide

theorem lowestAttention_eq_some {x : Dlc} {d : Drive} (attending : (x.drives.get d).attention = true)
    (first : ∀ e, driveAddress e < driveAddress d → (x.drives.get e).attention = false) :
    x.lowestAttention = some d := by
  obtain ⟨before, after, order, lower⟩ := allDrives_eq_append d
  refine List.find?_eq_some_iff_append.mpr ⟨attending, before, after, order, fun e he => ?_⟩
  rw [first e (lower e he)]
  decide

theorem lowestAttention_eq_none {x : Dlc} (silent : ∀ e, (x.drives.get e).attention = false) :
    x.lowestAttention = none :=
  List.find?_eq_none.mpr fun e _ => by rw [silent e]; decide

/-! ## The three transfers -/

theorem exec_stop (s : State) : exec .stop s = execStop s := rfl
theorem exec_poll (s : State) : exec .poll s = execPoll s := rfl
theorem exec_commandExchange (s : State) : exec .commandExchange s = execCommandExchange s := rfl

section Transfers

variable {s : State} (line : s.dlc.line = .free ∨ s.dlc.line = .stop)
include line

theorem exec_stop_pending (pending : s.dlc.stopPending = true) :
    exec .stop s =
      ran (s.setDlc { s.dlc with line := .stop, stopPending := false, sent := [0x100, 0x7F, 0x00, 0x81] }) := by
  rw [exec_stop, execStop, if_pos ⟨afterStop_eq_free line, pending⟩, stopFrame]

theorem exec_poll_attending {d : Drive} (idle : s.dlc.stopPending = false) (lowest : s.dlc.lowestAttention = some d) :
    exec .poll s =
      ran
        (s.setDlc
          { s.dlc with
            line := .poll d [], sent := [BitVec.ofNat 9 (256 + driveAddress d), 0x70, 0x00, 0x90] }) := by
  rw [exec_poll, execPoll, afterStop_eq_free line, idle, lowest, ← pollFrame]

theorem exec_commandExchange_queued {d : Drive} {rest : List Drive} (idle : s.dlc.stopPending = false)
    (silent : s.dlc.lowestAttention = none) (queue : s.dlc.queue = d :: rest) :
    exec .commandExchange s = ran (s.sendCommand d rest) := by
  rw [exec_commandExchange, execCommandExchange, afterStop_eq_free line, idle, silent, queue]

end Transfers

theorem exec_poll_stopPending {s : State} (pending : s.dlc.stopPending = true) : exec .poll s = ran s := by
  rw [exec_poll, execPoll, pending]
  simp

theorem exec_commandExchange_stopPending {s : State} (pending : s.dlc.stopPending = true) :
    exec .commandExchange s = ran s := by
  rw [exec_commandExchange, execCommandExchange, pending]
  simp

theorem exec_commandExchange_attending {s : State} {d : Drive} (lowest : s.dlc.lowestAttention = some d) :
    exec .commandExchange s = ran s := by
  rw [exec_commandExchange, execCommandExchange, lowest]
  simp

theorem sendCommand_of_op {s : State} {d : Drive} {op : DriveOp} (rest : List Drive)
    (held : (s.dlc.drives.get d).op = some op) :
    s.sendCommand d rest =
      s.setDlc
        { s.dlc with
          queue := rest
          drives := s.dlc.drives.set d { s.dlc.drives.get d with stage := .inExchange }
          line := .command d false
          sent := commandFrame (driveAddress d) op.code op.args } := by
  simp only [State.sendCommand, held]

/-- Settles O48: each transfer is taken when the arbiter's order reaches it, and its frame is written out. -/
theorem theLineIsTakenInOrder : Obligations.TheLineIsTakenInOrder := by
  unfold Obligations.TheLineIsTakenInOrder
  intro s line
  refine ⟨fun pending => ?stop, fun d idle attending first => ?poll, fun d rest op idle silent queue held => ?command⟩
  case stop =>
    exact ⟨exec_stop_pending line pending, exec_poll_stopPending pending, exec_commandExchange_stopPending pending⟩
  case poll =>
    have lowest := lowestAttention_eq_some attending first
    exact ⟨exec_poll_attending line idle lowest, exec_commandExchange_attending lowest⟩
  case command =>
    refine ⟨checksum op.code op.args, byteSum_commandBody op.code op.args, ?_⟩
    rw [exec_commandExchange_queued line idle (lowestAttention_eq_none silent) queue, sendCommand_of_op rest held,
      commandFrame, addressChar_driveAddress, commandBody_eq]
    rfl

/-! ## What a failed completion keeps of the mode and the line -/

/-- From s to t the mode, the line and every drive's last fault stay. -/
structure KeepsFaults (s t : State) : Prop where
  mode : t.cmc.mode = s.cmc.mode
  line : t.dlc.line = s.dlc.line
  lastFault : ∀ d, (t.dlc.drives.get d).lastFault = (s.dlc.drives.get d).lastFault

theorem KeepsFaults.trans {s t u : State} (k : KeepsFaults s t) (l : KeepsFaults t u) : KeepsFaults s u where
  mode := l.mode.trans k.mode
  line := l.line.trans k.line
  lastFault d := (l.lastFault d).trans (k.lastFault d)

theorem KeepsFaults.of_dlc {s t : State} (mode : t.cmc.mode = s.cmc.mode) (dlc : t.dlc = s.dlc) : KeepsFaults s t where
  mode := mode
  line := by rw [dlc]
  lastFault d := by rw [dlc]

theorem KeepsFaults.of_quiet {s t : State} (q : t.quiet = s.quiet) (dlc : t.dlc = s.dlc) : KeepsFaults s t :=
  .of_dlc (State.quiet_mode q) dlc

/-- One drive's record replaced by one with the same last fault. -/
theorem KeepsFaults.of_set {s t : State} {d : Drive} {x : DriveState} (mode : t.cmc.mode = s.cmc.mode)
    (line : t.dlc.line = s.dlc.line) (drives : t.dlc.drives = s.dlc.drives.set d x)
    (same : x.lastFault = (s.dlc.drives.get d).lastFault) : KeepsFaults s t where
  mode := mode
  line := line
  lastFault e := by
    rw [drives]
    by_cases h : e = d
    · rw [h, PerDrive.get_set, same]
    · rw [PerDrive.get_set_other _ _ _ _ h]

theorem handOver_keepsFaults (s : State) (d : Drive) (op : DriveOp) : KeepsFaults s (s.handOver d op) :=
  .of_set rfl rfl rfl rfl

theorem lotCloseTest_keepsFaults (s : State) : KeepsFaults s s.lotCloseTest := by
  rw [State.lotCloseTest]
  split
  case isTrue =>
    exact KeepsFaults.trans (t := s.setCmc { s.cmc with lot := .none }) (.of_dlc rfl rfl)
      (.of_quiet (by simp) (by simp))
  case isFalse => exact .of_dlc rfl rfl

/-! ## The issuers' dealing with a failed operation (R39, R99, R102, R106, R110, R114, R137) -/

theorem pushOver_keepsFaults (s : State) : KeepsFaults s s.pushOver :=
  (lotCloseTest_keepsFaults s).trans (.of_quiet (State.testFeed_quiet _) (State.testFeed_dlc _))

theorem pushLost_keepsFaults (s : State) (mag slot : Nat) (stopped : Bool) :
    KeepsFaults s (s.pushLost mag slot stopped) := by
  rw [State.pushLost]
  refine KeepsFaults.trans (.of_quiet ?quiet ?dlc) (pushOver_keepsFaults _)
  all_goals (repeat' split) <;> simp

theorem issueScan_keepsFaults (s : State) (k : Nat) : KeepsFaults s (s.issueScan k) :=
  KeepsFaults.trans (t := s.setTrc { s.trc with inOp := some .scan, scanHeld := false }) (.of_dlc rfl rfl)
    (handOver_keepsFaults _ _ _)

theorem issueHeldScan_keepsFaults (s : State) : KeepsFaults s s.issueHeldScan := by
  rw [State.issueHeldScan]
  (repeat' split)
  case h_1.isFalse => exact issueScan_keepsFaults s _
  all_goals exact .of_quiet (by simp) (by simp)

theorem positionerEnded_fault_keepsFaults (s : State) (h : HeadId) : KeepsFaults s (s.positionerEnded h .fault) := by
  refine .of_quiet (State.positionerEnded_quiet s h _) ?_
  rw [State.positionerEnded]
  split <;> simp

theorem indexerEnded_fault_keepsFaults (s : State) : KeepsFaults s (s.indexerEnded .fault) := by
  refine .of_quiet (State.indexerEnded_quiet s _) ?_
  rw [State.indexerEnded]
  split <;> simp

theorem scanEnded_fault_keepsFaults (s : State) : KeepsFaults s (s.scanEnded .fault) := by
  refine .of_quiet (State.scanEnded_quiet s _) ?_
  rw [State.scanEnded]
  split
  · rfl
  · exact State.joinStopped_dlc _ _

theorem pushEnded_fault_keepsFaults (s : State) : KeepsFaults s (s.pushEnded .fault) := by
  rw [State.pushEnded]
  split
  · exact .of_dlc rfl rfl
  · exact pushLost_keepsFaults s _ _ false

theorem inElevatorEnded_fault_keepsFaults (s : State) : KeepsFaults s (s.inElevatorEnded .fault) := by
  rw [State.inElevatorEnded]
  have started : KeepsFaults s (s.setTrc { s.trc with inOp := none }) := .of_dlc rfl rfl
  refine started.trans ?_
  generalize s.setTrc { s.trc with inOp := none } = t
  cases s.trc.inOp with
  | none => exact .of_dlc rfl rfl
  | some op =>
    cases op with
    | scan => exact scanEnded_fault_keepsFaults t
    | staleScan => exact issueHeldScan_keepsFaults t
    | push => exact (pushEnded_fault_keepsFaults t).trans (issueHeldScan_keepsFaults _)

theorem outElevatorEnded_fault_keepsFaults (s : State) : KeepsFaults s (s.outElevatorEnded .fault) := by
  rw [State.outElevatorEnded]
  split
  case h_1 => exact .of_dlc rfl rfl
  case h_2 =>
    refine .of_quiet (State.storeLost_quiet s _ _ false) ?_
    simp only [State.storeLost, State.outputPromptTest]
    (repeat' split) <;> simp

theorem pullEnded_fault_keepsFaults (s : State) : KeepsFaults s (s.pullEnded .fault) := by
  rw [State.pullEnded]
  split
  · exact .of_quiet (State.pullFailed_quiet s _) (by simp [State.pullFailed])
  · exact .of_dlc rfl rfl

theorem issueSetTemp_keepsFaults (s : State) (setpoint : Nat) : KeepsFaults s (s.issueSetTemp setpoint) :=
  KeepsFaults.trans (t := s.setTrc { s.trc with setTempOut := true }) (.of_dlc rfl rfl) (handOver_keepsFaults _ _ _)

theorem workHolderEnded_fault_keepsFaults (s : State) : KeepsFaults s (s.workHolderEnded .fault) := by
  rw [State.workHolderEnded]
  (repeat' split)
  case h_2.isFalse =>
    refine KeepsFaults.trans ?_ (issueSetTemp_keepsFaults _ _)
    exact .of_dlc rfl rfl
  all_goals exact .of_dlc rfl rfl

theorem deliver_fault_keepsFaults (s : State) (d : Drive) : KeepsFaults s (s.deliver d .fault) := by
  cases d with
  | posA => exact positionerEnded_fault_keepsFaults s .a
  | posB => exact positionerEnded_fault_keepsFaults s .b
  | indexer => exact indexerEnded_fault_keepsFaults s
  | inElevator => exact inElevatorEnded_fault_keepsFaults s
  | outElevator => exact outElevatorEnded_fault_keepsFaults s
  | pull => exact pullEnded_fault_keepsFaults s
  | workHolder => exact workHolderEnded_fault_keepsFaults s

/-- No issuer tells the three failed completions apart. -/
theorem deliver_noAnswer (s : State) (d : Drive) : s.deliver d .noAnswer = s.deliver d .fault := by
  cases d <;> rfl

theorem deliver_timeout (s : State) (d : Drive) : s.deliver d .timeout = s.deliver d .fault := by
  cases d <;> rfl

theorem endOperation_noAnswer (s : State) (d : Drive) : s.endOperation d .noAnswer = s.endOperation d .fault :=
  deliver_noAnswer _ d

theorem endOperation_timeout (s : State) (d : Drive) : s.endOperation d .timeout = s.endOperation d .fault :=
  deliver_timeout _ d

theorem endOperation_fault_keepsFaults (s : State) (d : Drive) : KeepsFaults s (s.endOperation d .fault) :=
  KeepsFaults.trans (t := s.setDrive d (s.dlc.drives.get d).ended) (.of_set rfl rfl rfl rfl)
    (deliver_fault_keepsFaults _ d)

/-! ## A failed operation ended (R122, R123, R129) -/

theorem recordFault_lastFault (s : State) (d : Drive) (kind : FaultKind) (code : Byte) :
    ((s.recordFault d kind code).dlc.drives.get d).lastFault = ⟨kind, (s.dlc.drives.get d).opCode, code⟩ := by
  rw [State.recordFault, State.setDrive_dlc, PerDrive.get_set]

/-- From s to t a fault without a code of the drive's own has become the drive's last fault; the line, the mode, the recipe
and the queue of commands stay. -/
structure FaultEnds (d : Drive) (kind : FaultKind) (s t : State) : Prop where
  lastFault : (t.dlc.drives.get d).lastFault = ⟨kind, (s.dlc.drives.get d).opCode, 0⟩
  line : t.dlc.line = s.dlc.line
  mode : t.cmc.mode = s.cmc.mode
  rs : t.rs = s.rs
  pending : t.pending = s.pending

/-- An operation ends failed after its fault has been recorded, its conditions set and its event written. -/
theorem endOperation_faultEnds {d : Drive} {kind : FaultKind} {s u : State} (quiet : u.quiet = s.quiet)
    (dlc : u.dlc = (s.recordFault d kind 0).dlc) : FaultEnds d kind s (u.endOperation d .fault) := by
  have kept := endOperation_fault_keepsFaults u d
  have firm := (State.endOperation_eases u d .fault).firm
  constructor
  case lastFault => rw [kept.lastFault, dlc, recordFault_lastFault]
  case line => rw [kept.line, dlc]; rfl
  case mode => exact kept.mode.trans (State.quiet_mode quiet)
  case rs => exact (congrArg (·.2.1) firm).trans (State.quiet_rs quiet)
  case pending => exact (congrArg (·.2.2.2.2.2) firm).trans (State.quiet_pending quiet)

theorem failOperation_faultEnds (s : State) (d : Drive) (kind : FaultKind) :
    FaultEnds d kind s (s.failOperation d kind 0) :=
  endOperation_faultEnds (by simp) (by simp)

theorem noAnswer_faultEnds (s : State) (d : Drive) : FaultEnds d .noAnswer s (s.noAnswer d) := by
  rw [State.noAnswer, endOperation_noAnswer]
  exact endOperation_faultEnds (by simp) (by simp)

theorem timedOut_faultEnds (s : State) (d : Drive) : FaultEnds d .timeout s (s.timedOut d) := by
  rw [State.timedOut, endOperation_timeout]
  exact endOperation_faultEnds (by simp) (by simp)

/-! ## Their conditions (R122, R123) -/

theorem driveFaultEvent_condition (s : State) (d : Drive) (kind : FaultKind) (op code : Byte) :
    (s.driveFaultEvent d kind op code).cmc.conditions.getLsbD 10 = true :=
  (State.writeEvent_grows _ _ _ _).keeps 10 (State.setCondition_set s .driveFault)

theorem failOperation_condition (s : State) (d : Drive) (kind : FaultKind) (code : Byte) :
    (s.failOperation d kind code).cmc.conditions.getLsbD 10 = true :=
  (State.endOperation_grows _ d _).keeps 10 (driveFaultEvent_condition _ d kind _ code)

theorem noAnswer_driveFault (s : State) (d : Drive) : (s.noAnswer d).cmc.conditions.getLsbD 10 = true :=
  (State.endOperation_grows _ d _).keeps 10 (driveFaultEvent_condition _ d _ _ _)

theorem noAnswer_driveLineError (s : State) (d : Drive) : (s.noAnswer d).cmc.conditions.getLsbD 11 = true :=
  ((State.driveFaultEvent_grows _ _ _ _ _).trans (State.endOperation_grows _ d _)).keeps 11
    (State.setCondition_set _ .driveLineError)

theorem timedOut_condition (s : State) (d : Drive) : (s.timedOut d).cmc.conditions.getLsbD 9 = true :=
  ((State.writeEvent_grows _ _ _ _).trans (State.endOperation_grows _ d _)).keeps 9
    (State.setCondition_set _ .driveTimeout)

/-! ## The commands of an open exchange and of a timer (R122, R123) -/

theorem exec_answerCharacter {s : State} {d : Drive} {discard : Bool} (line : s.dlc.line = .command d discard)
    (c : LineChar) : exec (.answerCharacter c) s = ran (s.answer d discard c) := by
  show execAnswerCharacter c s = _
  rw [execAnswerCharacter, line]

theorem exec_answerWindowExpiry {s : State} {d : Drive} {discard : Bool} (line : s.dlc.line = .command d discard) :
    exec .answerWindowExpiry s = ran (if discard then s.setLine .free else (s.setLine .free).noAnswer d) := by
  show execAnswerWindowExpiry s = _
  rw [execAnswerWindowExpiry, line]

theorem exec_operationTimeout (d : Drive) (s : State) :
    exec (.operationTimeout d) s = ran (if (s.dlc.drives.get d).stage = .outstanding then s.timedOut d else s) := rfl

theorem answer_accept (s : State) (d : Drive) : s.answer d false 0x5A = (s.setLine .free).accepted d := rfl

theorem answer_refuse (s : State) (d : Drive) :
    s.answer d false 0xA5 = (s.setLine .free).failOperation d .refused 0 := rfl

theorem answer_other (s : State) (d : Drive) {c : LineChar} (accept : c ≠ 0x5A) (refuse : c ≠ 0xA5) :
    s.answer d false c = (s.setLine .free).noAnswer d := by
  rw [State.answer, if_neg (by decide), if_neg (c := c = dataChar 0x5A) accept, if_neg (c := c = dataChar 0xA5) refuse]

/-- Settles O49: an answer, its absence and an expired timer each come down to one end of the operation. -/
theorem answersDecideTheOperation : Obligations.AnswersDecideTheOperation := by
  unfold Obligations.AnswersDecideTheOperation
  intro d s
  refine ⟨fun line => ⟨?accept, ?refuse, ?other, ?silence⟩, fun line => ?discarded, fun outstanding => ?timeout,
    fun ended => ?late⟩
  case accept =>
    rw [exec_answerCharacter line, answer_accept]
    cases d <;> rfl
  case refuse =>
    have ends := failOperation_faultEnds (s.setLine .free) d .refused
    have step : exec (.answerCharacter 0xA5) s = ran ((s.setLine .free).failOperation d .refused 0) := by
      rw [exec_answerCharacter line, answer_refuse]
    refine ⟨_, step, ?_⟩
    simp only [State.txChoose_dlc, State.txChoose_cmc, State.txChoose_rs, State.txChoose_pending]
    exact ⟨ends.line, ends.lastFault, failOperation_condition _ d _ _, ends.mode, ends.rs, ends.pending⟩
  case other =>
    intro c accept refuse
    rw [exec_answerCharacter line, exec_answerWindowExpiry line, answer_other s d accept refuse]
    rfl
  case silence =>
    have ends := noAnswer_faultEnds (s.setLine .free) d
    refine ⟨_, exec_answerWindowExpiry line, ?_⟩
    simp only [State.txChoose_dlc, State.txChoose_cmc, State.txChoose_rs, State.txChoose_pending]
    exact ⟨ends.line, ends.lastFault, noAnswer_driveFault _ d, noAnswer_driveLineError _ d, ends.mode, ends.rs,
      ends.pending⟩
  case discarded => exact ⟨exec_answerWindowExpiry line, exec_answerCharacter line⟩
  case timeout =>
    have ends := timedOut_faultEnds s d
    have step : exec (.operationTimeout d) s = ran (s.timedOut d) := by
      rw [exec_operationTimeout, if_pos outstanding]
    refine ⟨_, step, ?_⟩
    simp only [State.txChoose_dlc, State.txChoose_cmc, State.txChoose_rs, State.txChoose_pending]
    exact ⟨ends.lastFault, timedOut_condition s d, ends.line, ends.mode, ends.rs, ends.pending⟩
  case late =>
    rw [exec_operationTimeout, if_neg ended]
    rfl

end Sys2Proof.Machine.DriveLine
end

section
/-! PROOFS. Classification of a pull (8.4): its record, what the queue and the statistics become, the hold a FAIL sets; and the
F keys that classify (R141, R142, R143, R145, R186). -/

namespace Sys2Proof.Machine.Classification

open Sys2Proof

/-! ## What stays of the pull station and the records -/

/-- From s to t the classification queue, the pull statistics and every region but the events' stay. -/
structure KeepsPulls (s t : State) : Prop where
  region : ∀ i, i ≠ .event → t.rm.get i = s.rm.get i
  queue : t.psc.queue = s.psc.queue
  stats : t.psc.stats = s.psc.stats

theorem KeepsPulls.of_eq {s t : State} (rm : t.rm = s.rm) (psc : t.psc = s.psc) : KeepsPulls s t where
  region i _ := by rw [rm]
  queue := by rw [psc]
  stats := by rw [psc]

theorem KeepsPulls.refl (s : State) : KeepsPulls s s := .of_eq rfl rfl

theorem KeepsPulls.trans {s t u : State} (k : KeepsPulls s t) (l : KeepsPulls t u) : KeepsPulls s u where
  region i hi := (l.region i hi).trans (k.region i hi)
  queue := l.queue.trans k.queue
  stats := l.stats.trans k.stats

theorem writeEvent_keepsPulls (s : State) (code : EventCode) (source arg : Nat) :
    KeepsPulls s (s.writeEvent code source arg) where
  region i hi := s.writeEvent_region code source arg i hi
  queue := by rw [State.writeEvent_psc]
  stats := by rw [State.writeEvent_psc]

/-- The gate test of the pull station writes its gate only (R134). -/
theorem testPullGates_keepsPulls (s : State) : KeepsPulls s s.testPullGates where
  region i _ := by rw [State.testPullGates_rm]
  queue := by
    unfold State.testPullGates
    (repeat' split) <;> simp
  stats := by
    unfold State.testPullGates
    (repeat' split) <;> simp

theorem lotCloseTest_keepsPulls (s : State) : KeepsPulls s s.lotCloseTest := by
  rw [State.lotCloseTest]
  split
  case isTrue =>
    let closed := (s.setCmc { s.cmc with lot := .none }).setTrc { s.trc with maps := [] }
    have written : KeepsPulls s (closed.writeEvent .lotEnd sourceCmc s.cmc.lotId) :=
      KeepsPulls.trans (t := closed) (.of_eq rfl rfl) (writeEvent_keepsPulls _ _ _ _)
    exact written.trans (.of_eq (by simp [closed]) (by simp [closed]))
  case isFalse => exact .refl s

theorem tellTrack_rm_of_ne_halt (s : State) {old : Mode} (new : Mode) (h : old ≠ .halt) :
    (s.tellTrack old new).rm = s.rm := by
  rw [State.tellTrack, if_neg h]
  split <;> simp

theorem changeMode_keepsPulls (s : State) (new : Mode) (cause : Nat) (h : s.cmc.mode ≠ .halt) :
    KeepsPulls s (s.changeMode new cause) := by
  let moved := s.setCmc { s.cmc with mode := new, cause := cause }
  let told := ((moved.tellHead .a).tellHead .b).tellTrack s.cmc.mode new
  have kept : KeepsPulls s told :=
    .of_eq (by simp [told, moved, tellTrack_rm_of_ne_halt _ _ h]) (by simp [told, moved])
  let written := told.testPullGates.writeEvent .modeChange sourceCmc (argBytes 0 0 s.cmc.mode.code new.code)
  have event : KeepsPulls s written := kept.trans ((testPullGates_keepsPulls _).trans (writeEvent_keepsPulls _ _ _ _))
  have noticed : KeepsPulls s (written.handNotice (.mode new s.cmc.mode cause)) :=
    event.trans (.of_eq (by simp) (by simp))
  simp only [State.changeMode, if_neg h]
  split
  case isTrue => exact noticed.trans (lotCloseTest_keepsPulls _)
  case isFalse => exact noticed

/-! ## The hold a FAIL sets (R186) -/

/-- The state a setting of a clear hold goes on from: held, and in DRAIN when the cell was in RUN. -/
def held (s : State) (cause : HoldCause) : State :=
  if s.cmc.mode = .run then (s.setCmc { s.cmc with hold := some cause }).changeMode .drain 2
  else s.setCmc { s.cmc with hold := some cause }

theorem held_mode (s : State) (cause : HoldCause) :
    (held s cause).cmc.mode = if s.cmc.mode = .run then .drain else s.cmc.mode := by
  unfold held
  split
  case isTrue => rw [State.changeMode_mode]
  case isFalse => rfl

theorem held_keepsPulls (s : State) (cause : HoldCause) : KeepsPulls s (held s cause) := by
  unfold held
  split
  case isTrue run =>
    have kept : KeepsPulls s (s.setCmc { s.cmc with hold := some cause }) := .of_eq rfl rfl
    exact kept.trans (changeMode_keepsPulls _ _ _ (by simp [run]))
  case isFalse => exact .of_eq rfl rfl

/-- The prompt, notice, condition and event of a hold set, and the heads' gates after it. -/
def reportHold (s : State) (cause : HoldCause) : State :=
  ((((s.raisePrompt .qualityHold 0 0).handNotice (.hold 1 cause.code cause.serial)).setCondition .holdSet).writeEvent
    .holdSet sourceCmc (argBytes cause.code (cause.serial / 65536) (cause.serial / 256) cause.serial)).testBothHeads

theorem setQualityHold_of_clear {s : State} (cause : HoldCause) (clear : s.cmc.hold = none) :
    s.setQualityHold cause = reportHold (held s cause) cause := by
  rw [State.setQualityHold, clear]
  rfl

theorem setQualityHold_of_set {s : State} (cause : HoldCause) {c : HoldCause} (set : s.cmc.hold = some c) :
    s.setQualityHold cause = s := by
  rw [State.setQualityHold, set]

theorem reportHold_keepsPulls (s : State) (cause : HoldCause) : KeepsPulls s (reportHold s cause) := by
  let noticed := ((s.raisePrompt .qualityHold 0 0).handNotice (.hold 1 cause.code cause.serial)).setCondition .holdSet
  have kept : KeepsPulls s noticed := .of_eq (by simp [noticed]) (by simp [noticed])
  have written := kept.trans (writeEvent_keepsPulls noticed .holdSet sourceCmc
    (argBytes cause.code (cause.serial / 65536) (cause.serial / 256) cause.serial))
  exact written.trans (.of_eq (State.testBothHeads_rm _) (State.testBothHeads_psc _))

theorem setQualityHold_keepsPulls (s : State) (cause : HoldCause) : KeepsPulls s (s.setQualityHold cause) := by
  cases hold : s.cmc.hold with
  | none =>
    rw [setQualityHold_of_clear cause hold]
    exact (held_keepsPulls s cause).trans (reportHold_keepsPulls _ cause)
  | some c =>
    rw [setQualityHold_of_set cause hold]
    exact .refl s

theorem setQualityHold_mode (s : State) (cause : HoldCause) :
    (s.setQualityHold cause).cmc.mode =
      if s.cmc.hold = none ∧ s.cmc.mode = .run then .drain else s.cmc.mode := by
  cases hold : s.cmc.hold with
  | none =>
    have quiet : (reportHold (held s cause) cause).quiet = (held s cause).quiet := by simp [reportHold]
    rw [setQualityHold_of_clear cause hold, State.quiet_mode quiet, held_mode]
    simp
  | some c =>
    rw [setQualityHold_of_set cause hold]
    simp

/-! ## A record leaves the queue (R140) -/

/-- Of the CMC a close of the lot changes the lot and conditions only (R185). -/
theorem lotCloseTest_quiet (s : State) :
    ∃ lot, s.lotCloseTest.quiet = (s.setCmc { s.cmc with lot := lot }).quiet := by
  rw [State.lotCloseTest]
  split
  case isTrue => exact ⟨.none, by simp⟩
  case isFalse => exact ⟨s.cmc.lot, rfl⟩

/-- The queue without a serial. -/
def dropped (s : State) (serial : Nat) : State :=
  s.setPsc { s.psc with queue := s.psc.queue.filter fun p => p.serial != serial }

/-- With no record left the prompt goes and the lot may close. -/
def leaveQueue (s : State) (serial : Nat) : State :=
  if (dropped s serial).psc.queue = [] then ((dropped s serial).removePrompt .classifyPending 0).lotCloseTest
  else dropped s serial

theorem unstage_eq (s : State) (serial : Nat) :
    s.unstage serial =
      if (leaveQueue s serial).psc.gate = some .queue then (leaveQueue s serial).testPullGates
      else leaveQueue s serial := rfl

theorem leaveQueue_keepsPulls (s : State) (serial : Nat) : KeepsPulls (dropped s serial) (leaveQueue s serial) := by
  unfold leaveQueue
  split
  case isTrue => exact KeepsPulls.trans (.of_eq (by simp) (by simp)) (lotCloseTest_keepsPulls _)
  case isFalse => exact .refl _

theorem leaveQueue_quiet (s : State) (serial : Nat) :
    ∃ lot, (leaveQueue s serial).quiet = (s.setCmc { s.cmc with lot := lot }).quiet := by
  unfold leaveQueue
  split
  case isTrue =>
    have same : ((dropped s serial).removePrompt .classifyPending 0).quiet = s.quiet := by simp [dropped]
    obtain ⟨lot, closed⟩ := lotCloseTest_quiet ((dropped s serial).removePrompt .classifyPending 0)
    exact ⟨lot, closed.trans (congrArg (fun q => ({ q.1 with lot := lot }, q.2)) same)⟩
  case isFalse => exact ⟨s.cmc.lot, rfl⟩

theorem unstage_keepsPulls (s : State) (serial : Nat) : KeepsPulls (dropped s serial) (s.unstage serial) := by
  rw [unstage_eq]
  split
  case isTrue => exact (leaveQueue_keepsPulls s serial).trans (testPullGates_keepsPulls _)
  case isFalse => exact leaveQueue_keepsPulls s serial

theorem unstage_quiet (s : State) (serial : Nat) :
    ∃ lot, (s.unstage serial).quiet = (s.setCmc { s.cmc with lot := lot }).quiet := by
  obtain ⟨lot, same⟩ := leaveQueue_quiet s serial
  refine ⟨lot, ?_⟩
  rw [unstage_eq]
  split
  case isTrue => rw [State.testPullGates_quiet, same]
  case isFalse => exact same

theorem unstage_mode (s : State) (serial : Nat) : (s.unstage serial).cmc.mode = s.cmc.mode := by
  obtain ⟨_, same⟩ := unstage_quiet s serial
  exact (State.quiet_mode same).trans rfl

theorem unstage_hold (s : State) (serial : Nat) : (s.unstage serial).cmc.hold = s.cmc.hold := by
  obtain ⟨_, same⟩ := unstage_quiet s serial
  exact (State.quiet_hold same).trans rfl

/-! ## A record committed into its reservation (R153) -/

/-- The watermark rule changes of a region the mark's state only (R155). -/
theorem watermarkRise_region (s : State) (i j : RegionId) :
    (s.watermarkRise i).rm.get j = { s.rm.get j with above := ((s.watermarkRise i).rm.get j).above } := by
  simp only [State.watermarkRise]
  split
  case isTrue => cases i <;> cases j <;> simp
  case isFalse => rfl

theorem watermarkRise_region_other (s : State) {i j : RegionId} (h : j ≠ i) :
    (s.watermarkRise i).rm.get j = s.rm.get j := by
  simp only [State.watermarkRise]
  split
  case isTrue => cases i <;> cases j <;> simp_all
  case isFalse => rfl

theorem commit_region (s : State) (i : RegionId) (mk : Nat → Record) :
    ((s.commit i mk).rm.get i).records = (s.rm.get i).records ++ [mk (s.rm.get i).nextSerial] ∧
      ((s.commit i mk).rm.get i).reserved = (s.rm.get i).reserved - 1 := by
  rw [State.commit, watermarkRise_region, State.setRegion_rm, Rm.get_set]
  exact ⟨rfl, rfl⟩

theorem commit_region_other (s : State) {i j : RegionId} (mk : Nat → Record) (h : j ≠ i) :
    (s.commit i mk).rm.get j = s.rm.get j := by
  rw [State.commit, watermarkRise_region_other _ h, State.setRegion_rm]
  cases i <;> cases j <;> first | rfl | exact absurd rfl h

/-! ## A classification (R141, R145) -/

theorem finalPass_iff (p : Plan) (x : Staged) (mode : Nat) :
    finalPass p x mode = true ↔ p.fMin ≤ x.force ∧ p.accept.getLsbD (mode - 1) = true := by
  simp [finalPass, Plan.accepts]

/-- The record committed, the queue left and the result counted: a classification but for its hold. -/
def counted (s : State) (x : Staged) (mode : Nat) (by' : Classifier) : State :=
  let pass := finalPass s.rs.plan x mode
  let left := (s.commit .pull fun k => .pull (pullRecordOf x mode pass by' s.cmc.cellTime k)).unstage x.serial
  left.setPsc { left.psc with stats := left.psc.stats.add pass x.force }

theorem classifyPull_eq (s : State) (x : Staged) (mode : Nat) (by' : Classifier) :
    s.classifyPull x mode by' =
      if finalPass s.rs.plan x mode then counted s x mode by'
      else (counted s x mode by').setQualityHold (.pull x.serial) := rfl

/-- A classification keeps the regions, the queue and the statistics as they are after the count: the hold is apart. -/
theorem classifyPull_keepsPulls (s : State) (x : Staged) (mode : Nat) (by' : Classifier) :
    KeepsPulls (counted s x mode by') (s.classifyPull x mode by') := by
  rw [classifyPull_eq]
  split
  case isTrue => exact .refl _
  case isFalse => exact setQualityHold_keepsPulls _ _

theorem counted_region (s : State) (x : Staged) (mode : Nat) (by' : Classifier) {i : RegionId} (h : i ≠ .event) :
    (counted s x mode by').rm.get i =
      (s.commit .pull fun k =>
        .pull (pullRecordOf x mode (finalPass s.rs.plan x mode) by' s.cmc.cellTime k)).rm.get i :=
  (unstage_keepsPulls _ x.serial).region i h

theorem counted_queue (s : State) (x : Staged) (mode : Nat) (by' : Classifier) :
    (counted s x mode by').psc.queue = s.psc.queue.filter fun p => p.serial != x.serial := by
  refine (unstage_keepsPulls _ x.serial).queue.trans ?_
  rw [dropped, State.setPsc_psc, State.commit_psc]

theorem counted_stats (s : State) (x : Staged) (mode : Nat) (by' : Classifier) :
    (counted s x mode by').psc.stats = s.psc.stats.add (finalPass s.rs.plan x mode) x.force := by
  have same := (unstage_keepsPulls
    (s.commit .pull fun k => .pull (pullRecordOf x mode (finalPass s.rs.plan x mode) by' s.cmc.cellTime k))
    x.serial).stats
  rw [dropped, State.setPsc_psc, State.commit_psc] at same
  rw [counted, State.setPsc_psc, same]

theorem counted_hold (s : State) (x : Staged) (mode : Nat) (by' : Classifier) :
    (counted s x mode by').cmc.hold = s.cmc.hold :=
  (unstage_hold _ x.serial).trans (State.quiet_hold (State.commit_quiet ..))

theorem counted_mode (s : State) (x : Staged) (mode : Nat) (by' : Classifier) :
    (counted s x mode by').cmc.mode = s.cmc.mode :=
  (unstage_mode _ x.serial).trans (State.quiet_mode (State.commit_quiet ..))

/-- From s to t a staged pull has been classified with a verdict (R141, R145, R186). -/
structure Classified (x : Staged) (mode : Nat) (by' : Classifier) (pass : Bool) (s t : State) : Prop where
  records : t.rm.pull.records =
    s.rm.pull.records ++ [.pull (pullRecordOf x mode pass by' s.cmc.cellTime s.rm.pull.nextSerial)]
  reserved : t.rm.pull.reserved = s.rm.pull.reserved - 1
  bondA : t.rm.bondA = s.rm.bondA
  bondB : t.rm.bondB = s.rm.bondB
  queue : t.psc.queue = s.psc.queue.filter fun p => p.serial != x.serial
  stats : t.psc.stats = s.psc.stats.add pass x.force
  hold : t.cmc.hold = if pass then s.cmc.hold else some (s.cmc.hold.getD (.pull x.serial))
  mode : t.cmc.mode = if pass = false ∧ s.cmc.hold = none ∧ s.cmc.mode = .run then .drain else s.cmc.mode
  rs : t.rs = s.rs
  slots : t.pnc.slots = s.pnc.slots
  pending : t.pending = s.pending

theorem classifyPull_classified (s : State) (x : Staged) (mode : Nat) (by' : Classifier) :
    Classified x mode by' (finalPass s.rs.plan x mode) s (s.classifyPull x mode by') := by
  have kept := classifyPull_keepsPulls s x mode by'
  have region {i : RegionId} (h : i ≠ .event) := (kept.region i h).trans (counted_region s x mode by' h)
  have pull := region (i := .pull) (by decide)
  obtain ⟨records, reserved⟩ := commit_region s .pull fun k =>
    .pull (pullRecordOf x mode (finalPass s.rs.plan x mode) by' s.cmc.cellTime k)
  rw [← pull] at records reserved
  have firm := (State.classifyPull_eases s x mode by').firm
  constructor
  case records => exact records
  case reserved => exact reserved
  case bondA => exact (region (i := .bondA) (by decide)).trans (commit_region_other s _ (by decide))
  case bondB => exact (region (i := .bondB) (by decide)).trans (commit_region_other s _ (by decide))
  case queue => exact kept.queue.trans (counted_queue s x mode by')
  case stats => exact kept.stats.trans (counted_stats s x mode by')
  case hold =>
    rw [classifyPull_eq]
    cases finalPass s.rs.plan x mode with
    | true => exact counted_hold s x mode by'
    | false => simp [State.setQualityHold_hold, counted_hold]
  case mode =>
    rw [classifyPull_eq]
    cases finalPass s.rs.plan x mode with
    | true => simp [counted_mode]
    | false => simp [setQualityHold_mode, counted_hold, counted_mode]
  case rs => exact State.firm_rs firm
  case slots => exact congrArg (·.2.2.1.slots) firm
  case pending => exact State.firm_pending firm

/-- The transmitter's choice before a classification and after it is no part of it. -/
theorem Classified.txChoose {x : Staged} {mode : Nat} {by' : Classifier} {pass : Bool} {s t : State}
    (c : Classified x mode by' pass s t) : Classified x mode by' pass s t.txChoose := by
  obtain ⟨records, reserved, bondA, bondB, queue, stats, hold, cellMode, rs, slots, pending⟩ := c
  constructor <;> simpa

/-! ## CLASSIFY (R142) -/

/-- What a search of the queue by serial finds has the serial. -/
theorem serial_of_staged {s : State} {serial : Nat} {x : Staged} (found : s.staged serial = some x) :
    x.serial = serial := by
  simpa using List.find?_some found

theorem exec_classify (tag : Byte) (payload : Payload) (s : State) :
    exec (.classify tag payload) s = request 0x28 tag payload s := rfl

theorem exec_classify_free (tag : Byte) {serial mode : Nat} {x : Staged} {s : State} (free : s.link.Free)
    (word : serial < 2 ^ 32) (low : 1 ≤ mode) (high : mode ≤ 5) (found : s.staged serial = some x) :
    exec (.classify tag (beBytes 4 serial ++ [byte mode])) s =
      .next
        ((s.txChoose.classifyPull x mode .host).answered
          ⟨0x68, tag,
            0x00 :: (if finalPass s.rs.plan x mode then 1 else 2) :: beBytes 4 s.rm.pull.nextSerial⟩) := by
  have length : (beBytes 4 serial).length = 4 := beBytes_length 4 serial
  have value : beNat (beBytes 4 serial) = serial := beNat_beBytes_of_lt 4 serial (by omega)
  have modeByte : (byte mode).toNat = mode := by
    simp [byte]
    omega
  have staged : s.txChoose.staged serial = some x := by rw [State.staged, State.txChoose_psc]; exact found
  rw [exec_classify]
  refine Consumables.request_of_handler tag free (by simp) rfl ?_
  simp [handleClassify, length, value, modeByte, staged, replyOk, Status.code, Nat.not_lt.mpr high,
    Nat.one_le_iff_ne_zero.mp low]

/-- Settles O32: CLASSIFY is one classification between the transmitter's two choices. -/
theorem classifyCommitsThePull : Obligations.ClassifyCommitsThePull := by
  unfold Obligations.ClassifyCommitsThePull
  intro tag serial mode x s free word low high found
  have taken := classifyPull_classified s.txChoose x mode .host
  simp only [State.txChoose_rs] at taken
  have own : x.serial = serial := serial_of_staged found
  refine ⟨_, finalPass s.rs.plan x mode, finalPass_iff s.rs.plan x mode,
    exec_classify_free tag free word low high found, State.answered_answers _ _, ?_⟩
  simp only [State.answered_cmc, State.answered_rs, State.answered_rm, State.answered_pnc, State.answered_psc,
    State.answered_pending]
  obtain ⟨records, reserved, bondA, bondB, queue, stats, hold, cellMode, rs, slots, pending⟩ := taken
  simp only [State.txChoose_cmc, State.txChoose_rs, State.txChoose_rm, State.txChoose_pnc, State.txChoose_psc,
    State.txChoose_pending] at records reserved bondA bondB queue stats hold cellMode rs slots pending
  rw [own] at queue
  rw [stats]
  exact ⟨records, reserved, queue, rfl, rfl, rfl, rfl, hold, cellMode, rs, bondA, bondB, slots, pending⟩

/-! ## The F keys (R143, R176) -/

/-- In a view the key acts as it stands; only a pattern takes it away (R170). -/
theorem exec_fKey_of_view (k : Fin 5) {s : State} {v : View} (view : s.pnc.selection = .view v) :
    exec (.fKey k) s = .next (s.pressF (k.val + 1)).txChoose := by
  have pressed : s.key (fun s => s.pressF (k.val + 1)) = s.pressF (k.val + 1) := by rw [State.key, view]
  exact congrArg ran pressed

theorem pressF_classify {s : State} {x : Staged} {serial : Nat} (k : Nat) (view : s.pnc.selection = .view .classify)
    (latched : s.pnc.latched = some serial) (found : s.staged serial = some x) :
    s.pressF k = s.classifyPull x k .panel := by
  have shown : s.pnc.latched.bind s.staged = some x := by rw [latched, Option.bind_some, found]
  rw [State.pressF, view]
  simp only [shown, keyMode]

theorem pressF_nothingLatched {s : State} (k : Nat) (view : s.pnc.selection = .view .classify)
    (nothing : s.pnc.latched.bind s.staged = none) : s.pressF k = s.chirp := by
  rw [State.pressF, view]
  simp only [nothing]

/-- No pull is latched, or the one latched has left the queue. -/
theorem latched_bind_staged_eq_none {s : State} (gone : ∀ n, s.pnc.latched = some n → ∀ p ∈ s.psc.queue, p.serial ≠ n) :
    s.pnc.latched.bind s.staged = none := by
  cases latched : s.pnc.latched with
  | none => rfl
  | some n => simpa [State.staged] using gone n latched

theorem pressF_keysToHost {s : State} {n : Nat} {t : Template} (k : Nat) (view : s.pnc.selection = .view (.slot n))
    (slot : s.pnc.slots[n]? = some (some t)) (flag : t.keysToHost = true) : s.pressF k = s.handNotice (.key k n) := by
  rw [State.pressF, view]
  simp [slot, flag]

/-- The key of a slot without a template, or whose template keeps its keys from the host. -/
theorem pressF_keysKept {s : State} {n : Nat} (k : Nat) (view : s.pnc.selection = .view (.slot n))
    (kept : ∀ t, s.pnc.slots[n]? = some (some t) → t.keysToHost = false) : s.pressF k = s.chirp := by
  rw [State.pressF, view]
  cases shown : (s.pnc.slots[n]?).bind id with
  | none => simp only [shown]
  | some t =>
    have slot : s.pnc.slots[n]? = some (some t) := by simpa [Option.bind_eq_some_iff] using shown
    simp [slot, kept t slot]

theorem handNotice_of_room {s : State} (n : Notice) (room : s.link.notices.length < 16) :
    s.handNotice n = s.setLink { s.link with notices := s.link.notices ++ [n] } := by
  rw [State.handNotice, Config.noticeQueueSize, if_pos room]

/-- Settles O36: the key's meaning in each view, one case per view and what it holds. -/
theorem fKeysClassifyOrReport : Obligations.FKeysClassifyOrReport := by
  unfold Obligations.FKeysClassifyOrReport
  intro k s
  refine ⟨fun serial x view latched found => ?classify, fun view gone => ?gone, fun n t view slot flag room => ?host,
    fun n view kept => ?kept⟩
  case classify =>
    have own : x.serial = serial := serial_of_staged found
    have step : exec (.fKey k) s = .next (s.classifyPull x (k.val + 1) .panel).txChoose := by
      rw [exec_fKey_of_view k view, pressF_classify _ view latched found]
    obtain ⟨records, -, -, -, queue, stats, hold, -, rs, slots, pending⟩ :=
      (classifyPull_classified s x (k.val + 1) .panel).txChoose
    rw [own] at queue
    refine ⟨_, finalPass s.rs.plan x (k.val + 1), finalPass_iff s.rs.plan x (k.val + 1), step, records, queue, ?_, hold,
      rs, slots, pending⟩
    rw [stats]
    rfl
  case gone => rw [exec_fKey_of_view k view, pressF_nothingLatched _ view (latched_bind_staged_eq_none gone)]
  case host => rw [exec_fKey_of_view k view, pressF_keysToHost _ view slot flag, handNotice_of_room _ room]
  case kept => rw [exec_fKey_of_view k view, pressF_keysKept _ view kept]

end Sys2Proof.Machine.Classification
end

section
/-! PROOFS. The frame start (10.2, 10.3): the timing taken, and what the frame shows: template and fields, status screen, prompt
area, patterns, classification view (R143, R164 to R170). -/

namespace Sys2Proof.Machine.FrameStart

open Sys2Proof

/-! ## Decimal digits (R168, DEC) -/

theorem ten_pow_succ_le_iff (i v : Nat) : 10 ^ (i + 1) ≤ v ↔ 10 ^ i ≤ v / 10 := by
  rw [Nat.pow_succ, Nat.le_div_iff_mul_le (by decide)]

/-- Counted from the last digit: the units' digit is always there, a higher one while the number reaches its place. -/
theorem decimal_reverse_getElem? (k i v : Nat) (h : i < k) :
    (decimal k v).reverse[i]? =
      if i = 0 ∨ 10 ^ i ≤ v then some (byte (0x30 + v / 10 ^ i % 10)) else none := by
  induction k generalizing i v with
  | zero => omega
  | succ k ih =>
    rw [decimal, List.reverse_append]
    cases i with
    | zero => simp
    | succ i =>
      have place : (i + 1 = 0 ∨ 10 ^ (i + 1) ≤ v) ↔ 10 ^ i ≤ v / 10 := by simp [ten_pow_succ_le_iff]
      have digit : v / 10 ^ (i + 1) = v / 10 / 10 ^ i := by rw [Nat.pow_succ', Nat.div_div_eq_div_mul]
      simp only [place, digit, List.reverse_singleton, List.singleton_append, List.getElem?_cons_succ]
      split
      case isTrue small =>
        have zero : v / 10 = 0 := Nat.div_eq_of_lt small
        simp [zero]
      case isFalse large =>
        rw [ih i (v / 10) (by omega)]
        cases i with
        | zero => simp; omega
        | succ i => simp

theorem lt_decimal_length_iff (k w v : Nat) (h : w < k) :
    w < (decimal k v).length ↔ w = 0 ∨ 10 ^ w ≤ v := by
  have digit := decimal_reverse_getElem? k w v h
  rw [← Nat.not_le, ← List.length_reverse, ← List.getElem?_eq_none_iff, digit]
  split <;> simp_all

/-! ## Rows of cells -/

/-- Right-aligned in a box: from the right end the contents, then blanks. -/
theorem rightAligned_getElem? {α β : Type} (cs : List α) (f : α → β) (blank : β) (w k : Nat) (fits : cs.length ≤ w)
    (h : k < w) :
    (List.replicate (w - cs.length) blank ++ cs.map f)[k]? = some ((cs.reverse[w - 1 - k]?).elim blank f) := by
  by_cases left : k < w - cs.length
  · have beyond : cs.reverse[w - 1 - k]? = none := by
      rw [List.getElem?_eq_none_iff, List.length_reverse]
      omega
    rw [List.getElem?_append_left (by simpa using left), List.getElem?_replicate, if_pos left, beyond]
    rfl
  · have place : cs.length - 1 - (w - 1 - k) = k - (w - cs.length) := by omega
    have inside : k - (w - cs.length) < cs.length := by omega
    rw [List.getElem?_append_right (by simp; omega), List.getElem?_reverse (by omega), place]
    simp [inside]

/-- Left-aligned in a box: the contents, then blanks. -/
theorem leftAligned_getElem? {α β : Type} (cs : List α) (f : α → β) (blank : β) (w k : Nat) (h : k < w) :
    (cs.map f ++ List.replicate (w - cs.length) blank)[k]? = some ((cs[k]?).elim blank f) := by
  by_cases left : k < cs.length
  · rw [List.getElem?_append_left (by simpa using left)]
    simp [left]
  · have beyond : cs[k]? = none := List.getElem?_eq_none (Nat.not_lt.mp left)
    have inside : k - cs.length < w - cs.length := Nat.sub_lt_sub_right (Nat.not_lt.mp left) h
    rw [List.getElem?_append_right (by simpa using left), List.length_map, List.getElem?_replicate, if_pos inside, beyond]
    rfl

/-! ## A field's cells (R168) -/

theorem decCells_getElem? {f : ScreenField} (x : Sample) {k : Nat} (dec : f.format = 1) (width : f.width ≤ 20)
    (h : k < f.width) : (fieldCells f x)[k]? = some (fieldCellAt f x.value x.name x.scale k) := by
  have digits := lt_decimal_length_iff 21 f.width x.value (by omega)
  have wide : f.width < (decimal 21 x.value).length ↔ 10 ^ f.width ≤ x.value := by
    rw [digits]
    omega
  simp only [fieldCells, fieldCellAt, dec, wide]
  split
  case isTrue => simp [h]
  case isFalse narrow =>
    have fits : (decimal 21 x.value).length ≤ f.width := Nat.not_lt.mp (mt wide.mp narrow)
    have units : f.width - 1 - k = 0 ↔ k + 1 = f.width := by omega
    rw [rightAligned_getElem? _ _ _ _ _ fits h, decimal_reverse_getElem? _ _ _ (by omega)]
    simp only [units]
    split <;> rfl

theorem stateCells_getElem? {f : ScreenField} (x : Sample) {k : Nat} (state : f.format = 2) (h : k < f.width) :
    (fieldCells f x)[k]? = some (fieldCellAt f x.value x.name x.scale k) := by
  have length : (ascii x.name).length = x.name.length := by simp [ascii]
  simp only [fieldCells, fieldCellAt, state, length]
  split
  case isTrue => simp [h]
  case isFalse =>
    rw [← length, leftAligned_getElem? _ _ _ _ _ h, ascii, List.getElem?_map]
    cases x.name[k]? <;> rfl

/-- The filled cells of a bar. -/
def barLength (f : ScreenField) (x : Sample) : Nat :=
  if x.scale = 0 then 0 else min f.width (x.value * f.width / x.scale)

theorem lt_barLength_iff {f : ScreenField} (x : Sample) {k : Nat} (h : k < f.width) :
    k < barLength f x ↔ 0 < x.scale ∧ k < x.value * f.width / x.scale := by
  unfold barLength
  split
  case isTrue empty => simp [empty]
  case isFalse scaled =>
    have positive : 0 < x.scale := Nat.pos_of_ne_zero scaled
    rw [Nat.lt_min]
    exact ⟨fun ⟨_, bar⟩ => ⟨positive, bar⟩, fun ⟨_, bar⟩ => ⟨h, bar⟩⟩

theorem barCells_getElem? {f : ScreenField} (x : Sample) {k : Nat} (dec : f.format ≠ 1) (state : f.format ≠ 2)
    (h : k < f.width) : (fieldCells f x)[k]? = some (fieldCellAt f x.value x.name x.scale k) := by
  have cells : fieldCells f x =
      List.replicate (barLength f x) .block ++ List.replicate (f.width - barLength f x) (.char 0x20) := by
    unfold fieldCells
    split
    case h_1 format => exact absurd format dec
    case h_2 format => exact absurd format state
    case h_3 => rfl
  have cell : fieldCellAt f x.value x.name x.scale k = if k < barLength f x then .block else .char 0x20 := by
    unfold fieldCellAt
    split
    case h_1 format => exact absurd format dec
    case h_2 format => exact absurd format state
    case h_3 => simp only [lt_barLength_iff x h]
  rw [cells, cell, List.getElem?_append, List.getElem?_replicate, List.getElem?_replicate]
  by_cases filled : k < barLength f x
  · simp [filled]
  · have inside : k - barLength f x < f.width - barLength f x := by omega
    simp [filled, inside]

theorem fieldCells_getElem? {f : ScreenField} (x : Sample) {k : Nat} (width : f.width ≤ 20) (h : k < f.width) :
    (fieldCells f x)[k]? = some (fieldCellAt f x.value x.name x.scale k) := by
  by_cases dec : f.format = 1
  · exact decCells_getElem? x dec width h
  · by_cases state : f.format = 2
    · exact stateCells_getElem? x state h
    · exact barCells_getElem? x dec state h

/-! ## A template's cells (R166, R168) -/

/-- The field's box holds the cell. -/
def Covers (f : ScreenField) (row col : Nat) : Prop := f.row = row ∧ f.col ≤ col ∧ col < f.col + f.width

/-- A template's character of a cell, blank outside its rows and columns. -/
def baseChar (t : Template) (row col : Nat) : Byte :=
  if row ≤ 30 ∧ col ≤ 80 then (t.cells[(row - 1) * 80 + (col - 1)]?).getD 0x20 else 0x20

/-- One field's box laid over a cell. -/
def overlay (row col : Nat) (under : DisplayCell) (b : ScreenField × List DisplayCell) : DisplayCell :=
  if b.1.row = row ∧ b.1.col ≤ col ∧ col < b.1.col + b.1.width then b.2.getD (col - b.1.col) under else under

theorem cellOf_eq_foldl (t : Template) (boxes : List (ScreenField × List DisplayCell)) (row col : Nat) :
    cellOf t boxes row col = boxes.foldl (overlay row col) (.char (baseChar t row col)) := rfl

theorem foldl_overlay_of_uncovered {row col : Nat} (boxes : List (ScreenField × List DisplayCell)) (under : DisplayCell)
    (uncovered : ∀ b ∈ boxes, ¬Covers b.1 row col) : boxes.foldl (overlay row col) under = under := by
  induction boxes with
  | nil => rfl
  | cons b bs ih =>
    have skip : overlay row col under b = under := if_neg (uncovered b (.head _))
    rw [List.foldl_cons, skip, ih fun c hc => uncovered c (.tail _ hc)]

/-- The fields of a template with their cells as sampled in a state. -/
def boxes (s : State) (fs : List ScreenField) : List (ScreenField × List DisplayCell) :=
  fs.map fun f => (f, fieldCells f (s.sample f.var))

theorem boxes_uncovered {s : State} {fs : List ScreenField} {row col : Nat} (uncovered : ∀ f ∈ fs, ¬Covers f row col) :
    ∀ b ∈ boxes s fs, ¬Covers b.1 row col := by
  intro b hb
  obtain ⟨f, hf, rfl⟩ := List.mem_map.mp hb
  exact uncovered f hf

theorem cellOf_uncovered {s : State} {t : Template} {row col : Nat} (uncovered : ∀ f ∈ t.fields, ¬Covers f row col) :
    cellOf t (boxes s t.fields) row col = .char (baseChar t row col) := by
  rw [cellOf_eq_foldl, foldl_overlay_of_uncovered _ _ (boxes_uncovered uncovered)]

/-- The last field over a cell is the one shown. -/
theorem cellOf_covered {s : State} {t : Template} {row col : Nat} {before later : List ScreenField} {f : ScreenField}
    (parts : t.fields = before ++ f :: later) (covers : Covers f row col) (width : f.width ≤ 20)
    (last : ∀ g ∈ later, ¬Covers g row col) :
    cellOf t (boxes s t.fields) row col =
      fieldCellAt f (s.sample f.var).value (s.sample f.var).name (s.sample f.var).scale (col - f.col) := by
  obtain ⟨_, left, right⟩ := id covers
  have shown (under : DisplayCell) : overlay row col under (f, fieldCells f (s.sample f.var)) =
      fieldCellAt f (s.sample f.var).value (s.sample f.var).name (s.sample f.var).scale (col - f.col) := by
    have laid : overlay row col under (f, fieldCells f (s.sample f.var)) =
        (fieldCells f (s.sample f.var)).getD (col - f.col) under := if_pos covers
    rw [laid, List.getD_eq_getElem?_getD, fieldCells_getElem? _ width (by omega), Option.getD_some]
  rw [cellOf_eq_foldl, parts, boxes, List.map_append, List.map_cons, List.foldl_append, List.foldl_cons, shown]
  exact foldl_overlay_of_uncovered _ _ (boxes_uncovered last)

/-! ## A template on the visible grid (R166) -/

/-- The cells of the visible rows above the prompt area. -/
def gridOf (columns rows : Nat) (cell : Nat → Nat → DisplayCell) : List (List DisplayCell) :=
  (List.range' 1 rows).map fun row => (List.range' 1 columns).map (cell row)

theorem drawScreen_eq (s : State) (t : Template) (columns rows : Nat) :
    s.drawScreen t columns rows = .screen (gridOf columns (rows - 2) (cellOf t (boxes s t.fields))) := rfl

theorem gridOf_length (columns rows : Nat) (cell : Nat → Nat → DisplayCell) :
    (gridOf columns rows cell).length = rows := by
  simp [gridOf]

theorem gridOf_row_length {columns rows : Nat} {cell : Nat → Nat → DisplayCell} :
    ∀ row ∈ gridOf columns rows cell, row.length = columns := by
  intro row h
  obtain ⟨_, _, rfl⟩ := List.mem_map.mp h
  simp

theorem range'_one_getElem? {n i : Nat} (low : 1 ≤ i) (high : i ≤ n) : (List.range' 1 n)[i - 1]? = some i := by
  rw [List.getElem?_range' (by omega)]
  congr 1
  omega

theorem gridOf_cell {columns rows row col : Nat} (cell : Nat → Nat → DisplayCell) (row1 : 1 ≤ row) (rowN : row ≤ rows)
    (col1 : 1 ≤ col) (colN : col ≤ columns) :
    ((gridOf columns rows cell)[row - 1]?).bind (·[col - 1]?) = some (cell row col) := by
  simp [gridOf, range'_one_getElem? row1 rowN, range'_one_getElem? col1 colN]

/-! ## Patterns (R170) -/

theorem bars_pixel {width height x : Nat} (y : Nat) (inside : x < width) (bar : x < 8 * (width / 8)) :
    (patternImage width height .bars).pixel x y = .bar (x / (width / 8) + 1) := by
  simp [patternImage, PatternImage.pixel, inside, barPixel, bar]

theorem everyNth_contains {period place bound x : Nat} (inside : x < bound) (low : place < period) :
    (everyNth period place bound).contains x = decide (x % period = place) := by
  simp [everyNth, inside, Nat.mod_eq_of_lt low]

theorem gridColumn_edge : Config.gridColumn = 0 ∨ Config.gridColumn = 9 := by
  unfold Config.gridColumn
  split <;> simp

theorem gridLine_edge : Config.gridLine = 0 ∨ Config.gridLine = 19 := by
  unfold Config.gridLine
  split <;> simp

theorem grid_pixel {width height x y : Nat} (hx : x < width) (hy : y < height) :
    (patternImage width height .grid).pixel x y =
      if x % 10 = Config.gridColumn ∨ y % 20 = Config.gridLine then .full else .dark := by
  have column : Config.gridColumn < 10 := by rcases gridColumn_edge with h | h <;> omega
  have line : Config.gridLine < 20 := by rcases gridLine_edge with h | h <;> omega
  simp only [patternImage, PatternImage.pixel, everyNth_contains hx column, everyNth_contains hy line,
    Bool.or_eq_true, decide_eq_true_eq]

theorem flat_pixel (width height x y : Nat) : (patternImage width height .flat).pixel x y = .full := rfl

/-! ## The prompt area (R166) -/

theorem displayRow_length (columns : Nat) (chars : List Byte) : (displayRow columns chars).length = columns := by
  simp [displayRow]
  omega

theorem displayRow_nil (columns : Nat) : displayRow columns [] = List.replicate columns (.char 0x20) := by
  simp [displayRow]

theorem promptArea_empty {p : Pnc} (columns : Nat) (empty : p.prompts = []) :
    (p.promptArea columns).first = List.replicate columns (.char 0x20) ∧
      (p.promptArea columns).second = List.replicate columns (.char 0x20) := by
  simp [Pnc.promptArea, Pnc.promptLines, empty, displayRow_nil]

theorem promptArea_top {p : Pnc} {q : Prompt} {qs : List Prompt} (columns : Nat) (top : p.prompts = q :: qs) :
    (p.promptArea columns).first = displayRow columns q.line ∧
      (p.promptArea columns).second =
        displayRow columns
          (Config.promptCounts (qs.filter fun p => p.severity == .alarm).length
            (qs.filter fun p => p.severity == .action).length (qs.filter fun p => p.severity == .info).length) := by
  simp [Pnc.promptArea, Pnc.promptLines, Pnc.further, top]

/-! ## What a selection renders (R164, R169, R170) -/

theorem render_pattern {s : State} {p : Pattern} {v : View} (selected : s.pnc.selection = .pattern p v) :
    s.render.prompts = none ∧
      s.render.picture =
        .pattern s.pnc.timing.hActive s.pnc.timing.vActive
          (patternImage s.pnc.timing.hActive s.pnc.timing.vActive p) := by
  simp [State.render, selected, State.picture]

theorem render_view_prompts {s : State} {v : View} (selected : s.pnc.selection = .view v) :
    s.render.prompts = some (s.pnc.promptArea s.render.columns) := by
  simp [State.render, selected]

theorem render_classify {s : State} (selected : s.pnc.selection = .view .classify) :
    s.render.picture = .classify s.psc.queue.head? s.psc.queue.length classifyKeys := by
  simp [State.render, selected, State.picture]

theorem render_status {s : State} {n : Nat} (selected : s.pnc.selection = .view (.slot n))
    (empty : (s.pnc.slots[n]?).bind id = none) : s.render.picture = .status s.statusScreen := by
  simp only [State.render, selected, State.picture, empty]

theorem render_template {s : State} {n : Nat} {t : Template} (selected : s.pnc.selection = .view (.slot n))
    (slot : s.pnc.slots[n]? = some (some t)) :
    s.render.picture = .screen (gridOf s.render.columns (s.render.rows - 2) (cellOf t (boxes s t.fields))) := by
  simp only [State.render, selected, State.picture, slot, Option.bind_some, id, drawScreen_eq]

/-! ## The state a frame is rendered in -/

/-- The state with the pending timing applied, whatever conditions and notices that leaves (R164, R165). -/
def timed (s : State) (conditions : BitVec 22) (link : Link) : State :=
  { s with
    cmc := { s.cmc with conditions := conditions }
    pnc := { s.pnc with timing := s.pnc.pendingTiming.getD s.pnc.timing, pendingTiming := none }
    link := link }

/-- That state with the oldest pull latched if CLASSIFY is shown. -/
def rendered (s : State) (conditions : BitVec 22) (link : Link) : State :=
  let t := timed s conditions link
  t.setPnc { t.pnc with latched := s.latch }

/-- A condition set changes the conditions and may queue a notice (R189). -/
theorem setCondition_eq (s : State) (c : Condition) :
    ∃ link,
      s.setCondition c = { s with cmc := { s.cmc with conditions := (s.setCondition c).cmc.conditions }, link := link } := by
  simp only [State.setCondition, State.handNotice]
  (repeat' split) <;> exact ⟨_, rfl⟩

/-- A new rate class sets PANEL_UNLOCKED, any other timing sets nothing (R165). -/
theorem applyTiming_eq (s : State) :
    ∃ conditions link, s.applyTiming = timed s conditions link ∧
      ∀ n, s.pnc.pendingTiming = some n → n.rate ≠ s.pnc.timing.rate → conditions.getLsbD 18 = true := by
  rw [State.applyTiming]
  cases pending : s.pnc.pendingTiming with
  | none =>
    have same : ({ s.pnc with pendingTiming := none } : Pnc) = s.pnc := by rw [← pending]
    refine ⟨s.cmc.conditions, s.link, ?_, fun _ h => nomatch h⟩
    rw [timed, pending]
    exact (congrArg s.setPnc same).symm
  | some n =>
    let taken := s.setPnc { s.pnc with timing := n, pendingTiming := none }
    by_cases same : n.rate = s.pnc.timing.rate
    · refine ⟨s.cmc.conditions, s.link, ?_, fun m h => ?_⟩
      · simp [timed, pending, same, State.setPnc]
      · cases h
        exact fun differs => absurd same differs
    · obtain ⟨link, set⟩ := setCondition_eq taken .panelUnlocked
      refine ⟨(taken.setCondition .panelUnlocked).cmc.conditions, link, ?_,
        fun _ _ _ => State.setCondition_set taken .panelUnlocked⟩
      rw [timed, pending, Option.getD_some]
      exact (if_pos same).trans set

theorem startFrame_eq (s : State) :
    ∃ conditions link,
      s.startFrame =
          (rendered s conditions link).setPnc
            { (rendered s conditions link).pnc with frame := some (rendered s conditions link).render } ∧
        ∀ n, s.pnc.pendingTiming = some n → n.rate ≠ s.pnc.timing.rate → conditions.getLsbD 18 = true := by
  obtain ⟨conditions, link, applied, relock⟩ := applyTiming_eq s
  refine ⟨conditions, link, ?_, relock⟩
  rw [State.startFrame, applied]
  rfl

theorem rendered_statusScreen (s : State) (conditions : BitVec 22) (link : Link) :
    (rendered s conditions link).statusScreen = s.statusScreen := rfl

theorem rendered_boxes (s : State) (conditions : BitVec 22) (link : Link) (fs : List ScreenField) :
    boxes (rendered s conditions link) fs = boxes s fs := rfl

theorem exec_frameStart (s : State) : exec .frameStart s = .next s.startFrame.txChoose := rfl

/-- Variable 4 of R168, its value and its name judged apart. -/
theorem sample_hold (s : State) :
    s.sample 4 =
      ⟨if s.cmc.hold.isSome then 1 else 0,
        if s.cmc.hold.isSome then ['S', 'E', 'T'] else ['C', 'L', 'E', 'A', 'R'], 0⟩ := by
  rw [State.sample]
  split <;> rfl

/-- Settles O33: the frame is rendered in the state with the timing taken and the pull latched, and each selection shows what
its rendering lemma says. -/
theorem frameStartTakesTheTiming : Obligations.FrameStartTakesTheTiming := by
  unfold Obligations.FrameStartTakesTheTiming
  intro s
  obtain ⟨conditions, link, started, relock⟩ := startFrame_eq s
  refine ⟨_, exec_frameStart s, ?_⟩
  rw [started]
  simp only [State.txChoose_cmc, State.txChoose_rs, State.txChoose_heads, State.txChoose_stu, State.txChoose_trc,
    State.txChoose_dlc, State.txChoose_psc, State.txChoose_rm, State.txChoose_pnc, State.txChoose_pending]
  refine ⟨rfl, rfl, relock, rfl,
    ⟨(rendered s conditions link).render, rfl, rfl, rfl, fun p v selected => ?pattern, fun v selected => ?prompts,
      fun n selected => ⟨fun empty => ?status, fun tm slot => ?template⟩, fun selected => ?classify⟩,
    rfl, rfl, rfl, rfl, rfl, rfl, rfl, rfl, rfl, rfl, rfl, rfl⟩
  case pattern =>
    obtain ⟨covered, drawn⟩ := render_pattern (s := rendered s conditions link) selected
    refine ⟨covered, _, drawn, fun x y hx hy => ⟨?bars, ?grid, ?flat⟩⟩
    case bars =>
      rintro rfl bar
      exact bars_pixel y hx bar
    case grid =>
      rintro rfl
      exact ⟨gridColumn_edge, gridLine_edge, grid_pixel hx hy⟩
    case flat =>
      rintro rfl
      exact flat_pixel _ _ x y
  case prompts =>
    exact ⟨_, render_view_prompts (s := rendered s conditions link) selected, rfl, displayRow_length _ _,
      displayRow_length _ _, promptArea_empty _, fun q qs top => promptArea_top _ top⟩
  case status =>
    have shown := render_status (s := rendered s conditions link) selected empty
    rwa [rendered_statusScreen] at shown
  case template =>
    refine ⟨_, render_template (s := rendered s conditions link) selected slot, gridOf_length _ _ _, gridOf_row_length,
      fun y x row1 rowN col1 colN => ?_⟩
    rw [gridOf_cell _ row1 rowN col1 colN, rendered_boxes]
    refine ⟨fun uncovered => congrArg some (cellOf_uncovered uncovered), ?_⟩
    intro before later b parts covers width last
    refine congrArg some ((cellOf_covered parts covers width last).trans ?table)
    -- the table of R168, a row at a time
    generalize b.var = var
    match var with
    | 0 | 1 | 2 | 3 | 5 | 6 | 7 | 8 | 9 | 10 | 11 | 12 | 13 | 14 | 15 | 16 | 17 | 18 | 19 | 20 => rfl
    | 4 =>
      rw [sample_hold]
      rfl
    | n + 21 => rfl
  case classify => exact ⟨_, render_classify (s := rendered s conditions link) selected, rfl⟩

end Sys2Proof.Machine.FrameStart
end

section
/-! PROOFS. Record Memory: records read and released, the room a release makes, and the regions laid out anew (R149, R152,
R156, R157, R159). -/

namespace Sys2Proof.Machine.RecordMemory

open Sys2Proof

/-! ## Codes and numbers in a payload -/

theorem regionOf_byte_code (i : RegionId) : regionOf (byte i.code).toNat = some i := by
  cases i <;> rfl

theorem byte_toNat_of_lt {n : Nat} (h : n < 256) : (byte n).toNat = n := by
  simpa [byte] using h

/-! ## READ_RECORDS (R156) -/

theorem exec_readRecords (tag : Byte) (payload : Payload) (s : State) :
    exec (.readRecords tag payload) s = request 0x2E tag payload s := rfl

theorem exec_readRecords_free (tag : Byte) (i : RegionId) {n : Nat} {s : State} (free : s.link.Free) (low : 1 ≤ n)
    (high : n ≤ 14) :
    exec (.readRecords tag [byte i.code, byte n]) s =
      .next
        (s.txChoose.answered
          ⟨0x6E, tag,
            let rs := (s.rm.get i).records.take (min n (replyLimit i))
            0x00 :: byte i.code :: byte rs.length :: rs.flatMap Record.bytes⟩) := by
  have wanted : (byte n).toNat = n := byte_toNat_of_lt (by omega)
  have admitted : ¬(n < 1 ∨ 14 < n) := by omega
  rw [exec_readRecords]
  refine Consumables.request_of_handler tag free (by simp) rfl ?_
  simp only [handleReadRecords, List.length_cons, List.length_nil, List.headD_cons, regionOf_byte_code,
    List.getD_cons_succ, List.getD_cons_zero, wanted, if_neg admitted, State.txChoose_rm]
  rfl

/-! ## Room told (R152) -/

theorem get_set_of_ne (r : Rm) {i j : RegionId} (x : Region) (h : j ≠ i) : (r.set i x).get j = r.get j := by
  cases i <;> cases j <;> simp at h ⊢

/-- Once room is told nobody waits for it, and nothing else of the region changes. -/
theorem roomFell_region (s : State) (i : RegionId) :
    (s.roomFell i).rm.get i = { s.rm.get i with waiting := false } := by
  simp only [State.roomFell]
  split
  case isTrue => rw [State.roomNotice_rm, State.setRegion_rm, Rm.get_set]
  case isFalse idle =>
    have nobody : (s.rm.get i).waiting = false := by simpa only [Bool.not_eq_true] using idle
    rw [← nobody]

theorem roomFell_region_other (s : State) {i j : RegionId} (h : j ≠ i) :
    (s.roomFell i).rm.get j = s.rm.get j := by
  simp only [State.roomFell]
  split
  case isTrue => rw [State.roomNotice_rm, State.setRegion_rm, get_set_of_ne _ _ h]
  case isFalse => rfl

/-! ## Records released (R157) -/

/-- A region without its oldest n records. -/
def cut (r : Region) (n : Nat) : Region := { r with records := r.records.drop n }

/-- The watermark rule changes the mark's state only (R155). -/
theorem watermarkFall_eq (r : Region) : r.watermarkFall = { r with above := r.watermarkFall.above } := by
  unfold Region.watermarkFall
  split <;> rfl

/-- More records than there are is all of them. -/
theorem cut_min_committed (r : Region) (n : Nat) : cut r (min n r.committed) = cut r n := by
  have dropped : r.records.drop (min n r.committed) = r.records.drop n := List.drop_eq_drop_min.symm
  rw [cut, cut, dropped]

theorem cut_of_none_released {r : Region} {n : Nat} (nothing : min n r.committed = 0) : cut r n = r := by
  rw [← cut_min_committed, nothing]
  rfl

theorem release_reply (s : State) (i : RegionId) (n : Nat) :
    (s.release i n).2 =
      replyOk (beBytes 2 (min n (s.rm.get i).records.length) ++ beBytes 4 (cut (s.rm.get i) n).oldestSerial) := by
  rw [← cut_min_committed]
  simp only [State.release]
  split <;> rfl

theorem release_of_none {s : State} {i : RegionId} {n : Nat} (nothing : min n (s.rm.get i).committed = 0) :
    (s.release i n).1 = s := by
  simp only [State.release, if_pos nothing]

theorem release_of_some {s : State} {i : RegionId} {n : Nat} (something : min n (s.rm.get i).committed ≠ 0) :
    (s.release i n).1 = (s.setRegion i (cut (s.rm.get i) n).watermarkFall).roomFell i := by
  rw [← cut_min_committed]
  simp only [State.release, if_neg something]
  rfl

/-- A release drops records; the mark and the wait for room may follow. -/
theorem release_region (s : State) (i : RegionId) (n : Nat) :
    ∃ above waiting,
      (s.release i n).1.rm.get i = { cut (s.rm.get i) n with above := above, waiting := waiting } ∧
        (1 ≤ n → 1 ≤ (s.rm.get i).records.length → waiting = false) := by
  by_cases nothing : min n (s.rm.get i).committed = 0
  · refine ⟨(s.rm.get i).above, (s.rm.get i).waiting, ?_, fun asked stored => ?_⟩
    · rw [release_of_none nothing, cut_of_none_released nothing]
    · rw [Region.committed] at nothing
      omega
  · refine ⟨(cut (s.rm.get i) n).watermarkFall.above, false, ?_, fun _ _ => rfl⟩
    rw [release_of_some nothing, roomFell_region, State.setRegion_rm, Rm.get_set, watermarkFall_eq]

theorem release_region_other (s : State) {i j : RegionId} (n : Nat) (h : j ≠ i) :
    (s.release i n).1.rm.get j = s.rm.get j := by
  by_cases nothing : min n (s.rm.get i).committed = 0
  · rw [release_of_none nothing]
  · rw [release_of_some nothing, roomFell_region_other _ h, State.setRegion_rm, get_set_of_ne _ _ h]

theorem release_stu (s : State) (i : RegionId) (n : Nat) : (s.release i n).1.stu = s.stu := by
  simp only [State.release]
  split <;> simp

theorem release_dlc (s : State) (i : RegionId) (n : Nat) : (s.release i n).1.dlc = s.dlc := by
  simp only [State.release]
  split <;> simp

theorem release_pnc (s : State) (i : RegionId) (n : Nat) : (s.release i n).1.pnc = s.pnc := by
  simp only [State.release]
  split <;> simp

theorem exec_releaseRecords (tag : Byte) (payload : Payload) (s : State) :
    exec (.releaseRecords tag payload) s = request 0x2F tag payload s := rfl

theorem exec_releaseRecords_free (tag : Byte) (i : RegionId) {n : Nat} {s : State} (free : s.link.Free)
    (word : n < 65536) :
    exec (.releaseRecords tag (byte i.code :: beBytes 2 n)) s =
      .next ((s.txChoose.release i n).1.answered ⟨0x6F, tag, (s.txChoose.release i n).2⟩) := by
  have value : beNat (beBytes 2 n) = n := beNat_beBytes_of_lt 2 n (by omega)
  rw [exec_releaseRecords]
  refine Consumables.request_of_handler tag free (by simp) rfl ?_
  simp [handleReleaseRecords, regionOf_byte_code, value]

/-! ## The regions laid out (R159) -/

/-- The bounds a layout gives a region. -/
def bounds (first last mark : RegionId → Nat) (i : RegionId) : Bounds := ⟨first i, last i, mark i⟩

/-- The payload of SET_REGIONS for a layout: the regions in code order. -/
def layoutPayload (first last mark : RegionId → Nat) : Payload :=
  allRegions.flatMap fun i => [byte (first i), byte (last i)] ++ beBytes 2 (mark i)

theorem layoutPayload_length (first last mark : RegionId → Nat) : (layoutPayload first last mark).length = 20 := rfl

/-- Numbers that fit their bytes read back as given. -/
theorem boundsOf_layoutPayload {first last mark : RegionId → Nat} (i : RegionId) (hfirst : first i < 256)
    (hlast : last i < 256) (hmark : mark i < 65536) :
    boundsOf (layoutPayload first last mark) i.code = bounds first last mark i := by
  have read : boundsOf (layoutPayload first last mark) i.code =
      ⟨(byte (first i)).toNat, (byte (last i)).toNat, beNat (beBytes 2 (mark i))⟩ := by
    cases i <;> rfl
  rw [read, byte_toNat_of_lt hfirst, byte_toNat_of_lt hlast, beNat_beBytes_of_lt 2 _ hmark, bounds]

theorem badBlock_eq_none {l : List (RegionId × Bounds)} (small : ∀ x ∈ l, x.2.first ≤ 63 ∧ x.2.last ≤ 63) :
    badBlock l = none := by
  induction l with
  | nil => rfl
  | cons x xs ih =>
    obtain ⟨hfirst, hlast⟩ := small x (.head _)
    rw [badBlock, if_neg (Nat.not_lt.mpr hfirst), if_neg (Nat.not_lt.mpr hlast)]
    exact ih fun y hy => small y (.tail _ hy)

/-- A range that is not turned round, with a watermark the region can reach. -/
def Sound (x : RegionId × Bounds) : Prop :=
  x.2.first ≤ x.2.last ∧ x.2.watermark ≤ capacityOf x.1 x.2.first x.2.last

/-- One range lies wholly below the other. -/
def Apart (x y : Bounds) : Prop := x.last < y.first ∨ y.last < x.first

theorem meets_eq_false {x y : Bounds} (apart : Apart x y) : x.meets y = false := by
  simp only [Bounds.meets, decide_eq_false_iff_not]
  unfold Apart at apart
  omega

/-- Sound ranges apart from each other and from those before them pass test 6. -/
theorem badRegion_eq_none {l : List (RegionId × Bounds)} {lower : List Bounds} (sound : ∀ x ∈ l, Sound x)
    (apart : l.Pairwise fun x y => Apart y.2 x.2) (below : ∀ x ∈ l, ∀ b ∈ lower, Apart x.2 b) :
    badRegion lower l = none := by
  induction l generalizing lower with
  | nil => rfl
  | cons x xs ih =>
    obtain ⟨range, reached⟩ := sound x (.head _)
    obtain ⟨headApart, tailApart⟩ := List.pairwise_cons.mp apart
    have clear : lower.any x.2.meets = false :=
      List.any_eq_false.mpr fun b hb => Bool.not_eq_true _ ▸ meets_eq_false (below x (.head _) b hb)
    rw [badRegion, if_neg (Nat.not_lt.mpr range), clear, if_neg Bool.false_ne_true, if_neg (Nat.not_lt.mpr reached)]
    refine ih (fun y hy => sound y (.tail _ hy)) tailApart fun y hy b hb => ?_
    rcases List.mem_cons.mp hb with rfl | hb
    · exact headApart y hy
    · exact below y (.tail _ hy) b hb

/-- A layout SET_REGIONS takes: ranges within the memory that do not meet, watermarks within their capacities (R159). -/
structure Fits (first last mark : RegionId → Nat) : Prop where
  range : ∀ i, first i ≤ last i
  top : ∀ i, last i ≤ 63
  reached : ∀ i, mark i ≤ capacityOf i (first i) (last i)
  apart : ∀ i j, i ≠ j → last i < first j ∨ last j < first i

theorem capacityOf_le (i : RegionId) {first last : Nat} (top : last ≤ 63) : capacityOf i first last ≤ 4096 := by
  have cells : 64 * (last + 1 - first) / cellsPerRecord i ≤ 64 * (last + 1 - first) := Nat.div_le_self _ _
  rw [capacityOf]
  omega

theorem Fits.boundsOf {first last mark : RegionId → Nat} (fits : Fits first last mark) (i : RegionId) :
    boundsOf (layoutPayload first last mark) i.code = bounds first last mark i := by
  have range := fits.range i
  have top := fits.top i
  have reached := Nat.le_trans (fits.reached i) (capacityOf_le i top)
  exact boundsOf_layoutPayload i (by omega) (by omega) (by omega)

theorem Fits.allBounds {first last mark : RegionId → Nat} (fits : Fits first last mark) :
    allBounds (layoutPayload first last mark) = allRegions.map fun i => (i, bounds first last mark i) := by
  simp only [Machine.allBounds, fits.boundsOf]

theorem Fits.regionFrom {first last mark : RegionId → Nat} (fits : Fits first last mark) (i : RegionId) :
    regionFrom (layoutPayload first last mark) i = .empty (first i) (last i) (mark i) := by
  simp only [Machine.regionFrom, fits.boundsOf, bounds]

theorem Fits.badBlock {first last mark : RegionId → Nat} (fits : Fits first last mark) :
    badBlock (allRegions.map fun i => (i, bounds first last mark i)) = none := by
  refine badBlock_eq_none fun x hx => ?_
  obtain ⟨i, -, rfl⟩ := List.mem_map.mp hx
  exact ⟨Nat.le_trans (fits.range i) (fits.top i), fits.top i⟩

theorem Fits.badRegion {first last mark : RegionId → Nat} (fits : Fits first last mark) :
    badRegion [] (allRegions.map fun i => (i, bounds first last mark i)) = none := by
  have distinct : allRegions.Pairwise (· ≠ ·) := by decide
  refine badRegion_eq_none (fun x hx => ?_) (List.pairwise_map.mpr ?_) fun _ _ _ hb => nomatch hb
  · obtain ⟨i, -, rfl⟩ := List.mem_map.mp hx
    exact ⟨fits.range i, fits.reached i⟩
  · exact distinct.imp fun {i j} differ => fits.apart j i differ.symm

/-- SET_REGIONS with a layout that fits, where R159 allows it. -/
theorem handleSetRegions_of_fits {first last mark : RegionId → Nat} {s : State} (fits : Fits first last mark)
    (setup : s.cmc.mode = .setup) (empty : s.trackEmpty = true) (unreserved : ∀ i, (s.rm.get i).reserved = 0) :
    handleSetRegions (layoutPayload first last mark) s = taken (s.setRm (rmFrom (layoutPayload first last mark))) := by
  have idle : (allRegions.any fun i => decide (0 < (s.rm.get i).reserved)) = false :=
    List.any_eq_false.mpr fun i _ => by rw [unreserved]; decide
  simp only [handleSetRegions, layoutPayload_length, setup, empty, idle, fits.allBounds, fits.badBlock, fits.badRegion]
  rfl

theorem exec_setRegions (tag : Byte) (payload : Payload) (s : State) :
    exec (.setRegions tag payload) s = request 0x2C tag payload s := rfl

theorem txChoose_trackEmpty (s : State) : s.txChoose.trackEmpty = s.trackEmpty := by
  simp only [State.trackEmpty, State.txChoose_stu, State.txChoose_trc]

theorem exec_setRegions_free (tag : Byte) {first last mark : RegionId → Nat} {s : State} (free : s.link.Free)
    (fits : Fits first last mark) (setup : s.cmc.mode = .setup) (empty : s.trackEmpty = true)
    (unreserved : ∀ i, (s.rm.get i).reserved = 0) :
    exec (.setRegions tag (layoutPayload first last mark)) s =
      .next ((s.txChoose.setRm (rmFrom (layoutPayload first last mark))).answered ⟨0x6C, tag, [0x00]⟩) := by
  rw [exec_setRegions]
  refine Consumables.request_of_handler tag free (by simp [layoutPayload_length]) rfl
    (handleSetRegions_of_fits fits ?_ ?_ ?_)
  · rwa [State.txChoose_cmc]
  · rwa [txChoose_trackEmpty]
  · rwa [State.txChoose_rm]

/-- Settles O25: each of the three requests is answered with what its handler gives on a free link. -/
theorem regionsAreReadReleasedAndLaidOut : Obligations.RegionsAreReadReleasedAndLaidOut := by
  unfold Obligations.RegionsAreReadReleasedAndLaidOut
  refine ⟨fun tag i s free => ⟨fun n low high => ?read, fun n word => ?release⟩,
    fun tag first last mark s free setup empty each apart => ?layout⟩
  case read => cases i <;> exact exec_readRecords_free tag _ free low high
  case release =>
    have quiet := State.release_quiet s.txChoose i n
    have reply := release_reply s.txChoose i n
    obtain ⟨above, waiting, region, told⟩ := release_region s.txChoose i n
    have other {j : RegionId} (h : j ≠ i) := release_region_other s.txChoose n h
    simp only [State.txChoose_rm] at reply region told other
    refine ⟨_, exec_releaseRecords_free tag i free word, ?_⟩
    rw [reply]
    refine ⟨State.answered_answers _ _, ?_⟩
    simp only [State.answered_rm, State.answered_cmc, State.answered_rs, State.answered_stu, State.answered_dlc,
      State.answered_pnc, State.answered_pending, region, cut, release_stu, release_dlc, release_pnc,
      State.quiet_mode quiet, State.quiet_hold quiet, State.quiet_lot quiet, State.quiet_rs quiet,
      State.quiet_pending quiet, State.txChoose_cmc, State.txChoose_rs, State.txChoose_stu, State.txChoose_dlc,
      State.txChoose_pnc, State.txChoose_pending, true_and, and_true]
    exact ⟨told, fun j h => other h⟩
  case layout =>
    obtain ⟨unreserved, range, top, reached⟩ := by simpa only [forall_and] using each
    have fits : Fits first last mark := { range, top, reached, apart }
    have laid := exec_setRegions_free tag free fits setup empty unreserved
    simp only [rmFrom, fits.regionFrom] at laid
    exact laid

end Sys2Proof.Machine.RecordMemory
end

section
/-! PROOFS. The masks of conditions (R189, R190): a mask read back, CLEAR_CONDITIONS and SET_ALERT_ENABLES. -/

namespace Sys2Proof.Machine.ConditionMasks

open Sys2Proof

/-- The four bytes of a mask give the mask back, and no mask is out of range. -/
theorem withMask_beBytes (mask : BitVec 22) (s : State) (f : State → BitVec 22 → State × Payload) :
    withMask (beBytes 4 mask.toNat) s f = f s mask := by
  have small : mask.toNat < 2 ^ 22 := mask.isLt
  have value : beNat (beBytes 4 mask.toNat) = mask.toNat := beNat_beBytes_of_lt 4 _ (by omega)
  simp only [withMask, beBytes_length, value, if_neg (Nat.not_le.mpr small), BitVec.ofNat_toNat, BitVec.setWidth_eq]
  rfl

theorem exec_clearConditions (tag : Byte) (payload : Payload) (s : State) :
    exec (.clearConditions tag payload) s = request 0x10 tag payload s := rfl

theorem exec_setAlertEnables (tag : Byte) (payload : Payload) (s : State) :
    exec (.setAlertEnables tag payload) s = request 0x11 tag payload s := rfl

/-- The conditions left once those of a mask have been cleared: PANEL_UNLOCKED stays while the lock is open (R165). -/
def conditionsLeft (s : State) (mask : BitVec 22) : BitVec 22 :=
  s.cmc.conditions &&& ~~~(if s.pnc.locked then mask else mask &&& ~~~Condition.panelUnlocked.bit)

theorem exec_clearConditions_free (tag : Byte) (mask : BitVec 22) {s : State} (free : s.link.Free) :
    exec (.clearConditions tag (beBytes 4 mask.toNat)) s =
      .next
        ((s.txChoose.setCmc { s.cmc with conditions := conditionsLeft s mask }).answered
          ⟨0x50, tag, 0x00 :: beBytes 4 (conditionsLeft s mask).toNat⟩) := by
  rw [exec_clearConditions]
  refine Consumables.request_of_handler tag free (by simp) rfl ?_
  rw [handleClearConditions, withMask_beBytes, State.txChoose_cmc, State.txChoose_pnc]
  rfl

theorem exec_setAlertEnables_free (tag : Byte) (mask : BitVec 22) {s : State} (free : s.link.Free) :
    exec (.setAlertEnables tag (beBytes 4 mask.toNat)) s =
      .next
        (((s.txChoose.setCmc { s.cmc with enables := mask }).noticeConditions
            (conditionsIn (mask &&& ~~~s.cmc.enables &&& s.cmc.conditions))).answered ⟨0x51, tag, [0x00]⟩) := by
  rw [exec_setAlertEnables]
  refine Consumables.request_of_handler tag free (by simp) rfl ?_
  rw [handleSetAlertEnables, withMask_beBytes, State.txChoose_cmc]
  rfl

/-- Settles O16: both requests read the mask given and are answered on a free link. -/
theorem conditionsAreClearedAndEnabled : Obligations.ConditionsAreClearedAndEnabled := by
  unfold Obligations.ConditionsAreClearedAndEnabled
  intro tag mask s free
  exact ⟨exec_clearConditions_free tag mask free, exec_setAlertEnables_free tag mask free⟩

end Sys2Proof.Machine.ConditionMasks
end

section
/-! PROOFS. The panel's requests (10.1 to 10.4): the display timing, the selection of a slot or a pattern, the tone (R163, R169,
R170, R177). -/

namespace Sys2Proof.Machine.PanelRequests

open Sys2Proof

/-! ## SET_PANEL_TIMING (R163) -/

/-- The values of a timing in the order of the request's fields. -/
def timingValues (t : Timing) : List Int :=
  [t.hActive, t.hSync, t.hBack, t.hFront, t.vActive, t.vSync, t.vBack, t.vFront, t.polarity, t.rate]

/-- The payload of a timing: eight words and two bytes. -/
def timingPayload (t : Timing) : Payload :=
  beBytes 2 t.hActive ++ beBytes 2 t.hSync ++ beBytes 2 t.hBack ++ beBytes 2 t.hFront ++ beBytes 2 t.vActive ++
    beBytes 2 t.vSync ++ beBytes 2 t.vBack ++ beBytes 2 t.vFront ++ [byte t.polarity, byte t.rate]

theorem timingPayload_length (t : Timing) : (timingPayload t).length = 18 := rfl

theorem timingOf_timingValues (t : Timing) : timingOf (timingValues t) = t := rfl

/-- Every field lies in its range (R163). -/
def InRange (t : Timing) : Prop := admitted timingFields (timingValues t) = true

theorem inRange_iff (t : Timing) :
    InRange t ↔
      (320 ≤ t.hActive ∧ t.hActive ≤ 1280) ∧ (1 ≤ t.hSync ∧ t.hSync ≤ 255) ∧ (1 ≤ t.hBack ∧ t.hBack ≤ 1023) ∧
        (1 ≤ t.hFront ∧ t.hFront ≤ 1023) ∧ (240 ≤ t.vActive ∧ t.vActive ≤ 800) ∧ (1 ≤ t.vSync ∧ t.vSync ≤ 255) ∧
        (1 ≤ t.vBack ∧ t.vBack ≤ 1023) ∧ (1 ≤ t.vFront ∧ t.vFront ≤ 1023) ∧ t.polarity ≤ 3 ∧ t.rate ≤ 3 := by
  simp only [InRange, timingFields, timingValues, admitted, FieldSpec.admits, Bool.and_eq_true, decide_eq_true_eq,
    Int.natCast_one, Int.emod_one, and_true]
  omega

/-- A timing in range is sent as its fields' bytes. -/
theorem timingPayload_eq_fieldBytes {t : Timing} (range : InRange t) :
    timingPayload t = fieldBytes timingFields (timingValues t) := by
  obtain ⟨hActive, hSync, hBack, hFront, vActive, vSync, vBack, vFront, polarity, rate⟩ := (inRange_iff t).mp range
  simp (disch := omega) only [timingPayload, timingFields, timingValues, fieldBytes, ← beBytes_eq_intBytes]
  simp [← byte_eq_beBytes]

theorem fieldValues_timingPayload {t : Timing} (range : InRange t) :
    fieldValues timingFields (timingPayload t) = timingValues t := by
  have sizes : ∀ f ∈ timingFields, f.holds := by
    simp only [timingFields, FieldSpec.holds]
    decide
  simpa [timingPayload_eq_fieldBytes range] using fieldValues_fieldBytes timingFields (timingValues t) [] sizes range

theorem handleSetPanelTiming_of_inRange {t : Timing} (s : State) (range : InRange t) :
    handleSetPanelTiming (timingPayload t) s = taken (s.setPnc { s.pnc with pendingTiming := some t }) := by
  have accepted : valueRefusal timingFields (timingValues t) [] = none := by
    rw [valueRefusal, firstBad_admitted _ _ _ range]
    rfl
  simp only [handleSetPanelTiming, timingPayload_length, fieldValues_timingPayload range, accepted, timingOf_timingValues]
  rfl

theorem exec_setPanelTiming (tag : Byte) (payload : Payload) (s : State) :
    exec (.setPanelTiming tag payload) s = request 0x30 tag payload s := rfl

theorem exec_setPanelTiming_free (tag : Byte) {t : Timing} {s : State} (free : s.link.Free) (range : InRange t) :
    exec (.setPanelTiming tag (timingPayload t)) s =
      .next ((s.txChoose.setPnc { s.pnc with pendingTiming := some t }).answered ⟨0x70, tag, [0x00]⟩) := by
  rw [exec_setPanelTiming]
  refine Consumables.request_of_handler tag free (by simp [timingPayload_length]) rfl ?_
  rw [handleSetPanelTiming_of_inRange _ range, State.txChoose_pnc]
  rfl

/-! ## SHOW_SCREEN (R169) -/

theorem slotLoaded_iff (p : Pnc) (n : Nat) :
    p.slotLoaded n = true ↔ n = 0 ∨ ((p.slots[n]?).getD none).isSome = true := by
  cases slot : p.slots[n]? <;> simp [Pnc.slotLoaded, slot]

theorem slotLoaded_fin_iff (p : Pnc) (n : Fin 8) :
    p.slotLoaded n.val = true ↔ n.val = 0 ∨ p.slots[n.val].isSome = true := by
  rw [slotLoaded_iff, Vector.getElem?_eq_getElem n.isLt, Option.getD_some]

theorem byte_slot (n : Fin 8) : (byte n.val).toNat = n.val := RecordMemory.byte_toNat_of_lt (by omega)

theorem handleShowScreen_slot (n : Fin 8) (s : State) :
    handleShowScreen [byte n.val] s =
      if s.pnc.slotLoaded n.val then taken (s.setPnc (s.pnc.showSlot n.val)) else (s, refusal .noSuch 0) := by
  have inside : ¬7 < n.val := by omega
  simp only [handleShowScreen, List.headD_cons, byte_slot, if_neg inside]
  rfl

theorem exec_showScreen (tag : Byte) (payload : Payload) (s : State) :
    exec (.showScreen tag payload) s = request 0x32 tag payload s := rfl

theorem exec_showScreen_loaded (tag : Byte) {n : Fin 8} {s : State} (free : s.link.Free)
    (loaded : s.pnc.slotLoaded n.val = true) :
    exec (.showScreen tag [byte n.val]) s =
      .next ((s.txChoose.setPnc (s.pnc.showSlot n.val)).answered ⟨0x72, tag, [0x00]⟩) := by
  rw [exec_showScreen]
  refine Consumables.request_of_handler tag free (by simp) rfl ?_
  rw [handleShowScreen_slot, State.txChoose_pnc, if_pos loaded]
  rfl

theorem exec_showScreen_empty (tag : Byte) {n : Fin 8} {s : State} (free : s.link.Free)
    (empty : ¬s.pnc.slotLoaded n.val = true) :
    exec (.showScreen tag [byte n.val]) s = .next (s.txChoose.answered ⟨0x72, tag, [0x06, 0x00]⟩) := by
  rw [exec_showScreen]
  refine Consumables.request_of_handler tag free (by simp) rfl ?_
  rw [handleShowScreen_slot, State.txChoose_pnc, if_neg empty]
  rfl

/-! ## SHOW_PATTERN (R170) -/

theorem handleShowPattern_of_named {k : Byte} {q : Pattern} (s : State) (named : patternOf k.toNat = some q) :
    handleShowPattern [k] s = taken (s.setPnc { s.pnc with selection := .pattern q s.pnc.selection.behind }) := by
  simp only [handleShowPattern, List.headD_cons, named]
  rfl

theorem exec_showPattern (tag : Byte) (payload : Payload) (s : State) :
    exec (.showPattern tag payload) s = request 0x33 tag payload s := rfl

theorem exec_showPattern_free (tag : Byte) {k : Byte} {q : Pattern} {s : State} (free : s.link.Free)
    (named : patternOf k.toNat = some q) :
    exec (.showPattern tag [k]) s =
      .next
        ((s.txChoose.setPnc { s.pnc with selection := .pattern q s.pnc.selection.behind }).answered
          ⟨0x73, tag, [0x00]⟩) := by
  rw [exec_showPattern]
  refine Consumables.request_of_handler tag free (by simp) rfl ?_
  rw [handleShowPattern_of_named _ named, State.txChoose_pnc]
  rfl

/-- The three pattern numbers of R170. -/
theorem patternOf_of_mem {k : Byte} {q : Pattern}
    (named : (k, q) ∈ [((1 : Byte), Pattern.bars), (2, .grid), (3, .flat)]) : patternOf k.toNat = some q := by
  simp only [List.mem_cons, Prod.mk.injEq, List.not_mem_nil, or_false] at named
  rcases named with ⟨rfl, rfl⟩ | ⟨rfl, rfl⟩ | ⟨rfl, rfl⟩ <;> rfl

/-! ## SET_TONE (R177) -/

theorem exec_setTone (tag : Byte) (payload : Payload) (s : State) :
    exec (.setTone tag payload) s = request 0x37 tag payload s := rfl

theorem exec_setTone_free (tag : Byte) {h : Nat} {s : State} (free : s.link.Free) (low : 125 ≤ h) (high : h ≤ 2000) :
    exec (.setTone tag (beBytes 2 h)) s =
      .next ((s.txChoose.setPnc { s.pnc with h := h }).answered ⟨0x77, tag, [0x00]⟩) := by
  have value : beNat (beBytes 2 h) = h := beNat_beBytes_of_lt 2 h (by omega)
  have inside : ¬(h < 125 ∨ 2000 < h) := by omega
  rw [exec_setTone]
  refine Consumables.request_of_handler tag free (by simp) rfl ?_
  simp only [handleSetTone, beBytes_length, value, if_neg inside, State.txChoose_pnc]
  rfl

/-- Settles O26: each request's handler on a free link, SHOW_SCREEN by whether its slot is loaded. -/
theorem panelRequestsSetThePanel : Obligations.PanelRequestsSetThePanel := by
  unfold Obligations.PanelRequestsSetThePanel
  intro tag s free
  refine ⟨?timing, fun n => ?screen, fun k q named => ?pattern, fun h low high => exec_setTone_free tag free low high⟩
  case timing =>
    intro t hActive hActive' hSync hSync' hBack hBack' hFront hFront' vActive vActive' vSync vSync' vBack vBack' vFront
      vFront' polarity rate
    have range : InRange t := (inRange_iff t).mpr
      ⟨⟨hActive, hActive'⟩, ⟨hSync, hSync'⟩, ⟨hBack, hBack'⟩, ⟨hFront, hFront'⟩, ⟨vActive, vActive'⟩, ⟨vSync, vSync'⟩,
        ⟨vBack, vBack'⟩, ⟨vFront, vFront'⟩, polarity, rate⟩
    exact exec_setPanelTiming_free tag free range
  case screen =>
    by_cases loaded : s.pnc.slotLoaded n.val = true
    · rw [if_pos ((slotLoaded_fin_iff s.pnc n).mp loaded)]
      exact exec_showScreen_loaded tag free loaded
    · rw [if_neg (mt (slotLoaded_fin_iff s.pnc n).mpr loaded)]
      exact exec_showScreen_empty tag free loaded
  case pattern => exact exec_showPattern_free tag free (patternOf_of_mem named)

end Sys2Proof.Machine.PanelRequests
end

section
/-! PROOFS. LOAD_SCREEN (R167, R168): a build opened, characters written, fields appended, the template committed. -/

namespace Sys2Proof.Machine.ScreenLoading

open Sys2Proof

/-! ## The slot and its build -/

theorem withSlot_byte (n : Fin 8) (rest : Payload) (s : State) (f : Nat → State × Payload) :
    withSlot (byte n.val :: rest) s f = f n.val := by
  have inside : ¬7 < n.val := by omega
  rw [withSlot, List.headD_cons, PanelRequests.byte_slot, if_neg inside]

theorem withBuild_open {s : State} {slot : Nat} {t : Template} (f : Template → State × Payload)
    (opened : s.pnc.build = some (slot, t)) : withBuild s slot f = f t := by
  simp only [withBuild, opened, if_true]

/-- A part that is taken is answered OK on a free link, whatever the part (R167). -/
theorem request_part_taken (tag part : Byte) {rest : Payload} {x : Pnc} {s : State} (free : s.link.Free)
    (fits : (part :: rest).length ≤ 248)
    (handled : handleLoadScreen (part :: rest) s.txChoose = taken (s.txChoose.setPnc x)) :
    request 0x31 tag (part :: rest) s = .next ((s.txChoose.setPnc x).answered ⟨0x71, tag, [0x00]⟩) :=
  Consumables.request_of_handler tag free fits rfl handled

/-! ## BEGIN and COMMIT -/

theorem exec_loadScreenBegin (tag : Byte) (rest : Payload) (s : State) :
    exec (.loadScreenBegin tag rest) s = request 0x31 tag (1#8 :: rest) s := rfl

theorem handleScreenBegin_flag (n : Fin 8) (flag : Bool) (s : State) :
    handleScreenBegin [byte n.val, boolByte flag] s = taken (s.setBuild (some (n.val, .blank flag))) := by
  rw [handleScreenBegin, withSlot_byte]
  cases flag <;> rfl

theorem exec_loadScreenBegin_free (tag : Byte) (n : Fin 8) (flag : Bool) {s : State} (free : s.link.Free) :
    exec (.loadScreenBegin tag [byte n.val, boolByte flag]) s =
      .next
        ((s.txChoose.setPnc { s.pnc with build := some (n.val, .blank flag) }).answered ⟨0x71, tag, [0x00]⟩) := by
  rw [exec_loadScreenBegin]
  refine request_part_taken tag _ free (by simp) ((handleScreenBegin_flag n flag _).trans ?_)
  rw [State.setBuild, State.txChoose_pnc]

theorem exec_loadScreenCommit (tag : Byte) (rest : Payload) (s : State) :
    exec (.loadScreenCommit tag rest) s = request 0x31 tag (4#8 :: rest) s := rfl

/-- Within the bounds the two ways of setting an element agree. -/
theorem setIfInBounds_of_lt {α : Type} {n i : Nat} (v : Vector α n) (x : α) (h : i < n) :
    v.setIfInBounds i x = v.set i x := by
  ext j hj
  rw [Vector.getElem_setIfInBounds, Vector.getElem_set]

theorem handleScreenCommit_open {n : Fin 8} {t : Template} {s : State} (opened : s.pnc.build = some (n.val, t)) :
    handleScreenCommit [byte n.val] s =
      taken (s.setPnc { s.pnc with slots := s.pnc.slots.set n.val (some t), build := none }) := by
  rw [handleScreenCommit, withSlot_byte, withBuild_open _ opened, setIfInBounds_of_lt _ _ n.isLt]
  rfl

theorem exec_loadScreenCommit_free (tag : Byte) {n : Fin 8} {t : Template} {s : State} (free : s.link.Free)
    (opened : s.pnc.build = some (n.val, t)) :
    exec (.loadScreenCommit tag [byte n.val]) s =
      .next
        ((s.txChoose.setPnc { s.pnc with slots := s.pnc.slots.set n.val (some t), build := none }).answered
          ⟨0x71, tag, [0x00]⟩) := by
  have kept : s.txChoose.pnc.build = some (n.val, t) := by rw [State.txChoose_pnc, opened]
  rw [exec_loadScreenCommit]
  refine request_part_taken tag _ free (by simp) ((handleScreenCommit_open kept).trans ?_)
  rw [State.txChoose_pnc]

/-! ## TEXT -/

/-- Characters written from a cell on replace the cells they reach and no others. -/
theorem writeChars_getElem (text : List Byte) (cells : Vector Byte 2400) (i k : Nat) (h : k < 2400) :
    (writeChars cells i text)[k] = if i ≤ k then (text[k - i]?).getD cells[k] else cells[k] := by
  induction text generalizing cells i with
  | nil => simp [writeChars]
  | cons c cs ih =>
    rw [writeChars, ih, Vector.getElem_setIfInBounds]
    rcases Nat.lt_trichotomy k i with below | rfl | above
    · have before : ¬i + 1 ≤ k := by omega
      have other : i ≠ k := by omega
      rw [if_neg before, if_neg other, if_neg (Nat.not_le.mpr below)]
    · rw [if_neg (Nat.not_succ_le_self k), if_pos rfl, if_pos (Nat.le_refl k), Nat.sub_self, List.getElem?_cons_zero,
        Option.getD_some]
    · have after : i + 1 ≤ k := above
      have place : k - i = k - (i + 1) + 1 := by omega
      rw [if_pos after, if_neg (Nat.ne_of_lt above), if_pos (Nat.le_of_lt above), place, List.getElem?_cons_succ]

theorem all_printable {text : List Byte} (chars : ∀ c ∈ text, 0x20 ≤ c.toNat ∧ c.toNat ≤ 0x7E) :
    text.all printable = true := by
  simpa [printable] using chars

/-- A text R167 takes: printable characters that do not run past the last column. -/
structure TextFits (row col : Nat) (text : List Byte) : Prop where
  rows : 1 ≤ row ∧ row ≤ 30
  left : 1 ≤ col
  nonempty : 1 ≤ text.length
  right : col + text.length - 1 ≤ 80
  chars : text.all printable = true

theorem handleScreenText_open {n : Fin 8} {t : Template} {s : State} {row col : Nat} {text : List Byte}
    (opened : s.pnc.build = some (n.val, t)) (fits : TextFits row col text) :
    handleScreenText (byte n.val :: byte row :: byte col :: text) s =
      taken
        (s.setPnc
          { s.pnc with build := some (n.val, { t with cells := writeChars t.cells (cellIndex row col) text }) }) := by
  obtain ⟨⟨row1, row30⟩, left, nonempty, right, chars⟩ := fits
  have rowByte : (byte row).toNat = row := RecordMemory.byte_toNat_of_lt (by omega)
  have colByte : (byte col).toNat = col := RecordMemory.byte_toNat_of_lt (by omega)
  have long : ¬text.length + 1 + 1 + 1 < 4 := by omega
  have rowIn : ¬(row < 1 ∨ 30 < row) := by omega
  have colIn : ¬(col < 1 ∨ 80 < col ∨ 80 < col + text.length - 1) := by omega
  simp only [handleScreenText, withSlot_byte, withBuild_open _ opened, List.length_cons, List.getD_cons_succ,
    List.getD_cons_zero, List.drop_succ_cons, List.drop_zero, rowByte, colByte, chars, if_neg long, if_neg rowIn,
    if_neg colIn]
  rfl

theorem exec_loadScreenText (tag : Byte) (rest : Payload) (s : State) :
    exec (.loadScreenText tag rest) s = request 0x31 tag (2#8 :: rest) s := rfl

theorem exec_loadScreenText_free (tag : Byte) {n : Fin 8} {t : Template} {s : State} {row col : Nat}
    {text : List Byte} (free : s.link.Free) (opened : s.pnc.build = some (n.val, t)) (fits : TextFits row col text) :
    exec (.loadScreenText tag ([byte n.val, byte row, byte col] ++ text)) s =
      .next
        ((s.txChoose.setPnc
            { s.pnc with
              build := some (n.val, { t with cells := writeChars t.cells (cellIndex row col) text }) }).answered
          ⟨0x71, tag, [0x00]⟩) := by
  have kept : s.txChoose.pnc.build = some (n.val, t) := by rw [State.txChoose_pnc, opened]
  have short : text.length ≤ 80 := by have := fits.left; have := fits.right; omega
  rw [exec_loadScreenText]
  refine request_part_taken tag _ free ?length ((handleScreenText_open kept fits).trans ?taken)
  case length =>
    simp only [List.cons_append, List.nil_append, List.length_cons]
    omega
  case taken => rw [State.txChoose_pnc]

/-! ## FIELDS -/

/-- The six bytes of a field. -/
def screenFieldBytes (f : ScreenField) : List Byte :=
  [byte f.row, byte f.col, byte f.width] ++ beBytes 2 f.var ++ [byte f.format]

theorem screenFieldBytes_length (f : ScreenField) : (screenFieldBytes f).length = 6 := rfl

theorem length_flatMap_screenFieldBytes (fs : List ScreenField) :
    (fs.flatMap screenFieldBytes).length = 6 * fs.length := by
  induction fs with
  | nil => rfl
  | cons f fs ih =>
    rw [List.flatMap_cons, List.length_append, screenFieldBytes_length, ih, List.length_cons]
    omega

/-- Only the variables 1 to 20 have formats, and the formats are 1 to 3 (R168). -/
theorem var_and_format_of_formatsOf {var format : Nat} (allowed : (formatsOf var).contains format = true) :
    var ≤ 20 ∧ format ≤ 3 := by
  unfold formatsOf at allowed
  split at allowed <;> simp at allowed <;> omega

/-- A field R168 takes: a box within the template and a format its variable allows. -/
structure FieldFits (f : ScreenField) : Prop where
  row : 1 ≤ f.row ∧ f.row ≤ 30
  col : 1 ≤ f.col
  width : 1 ≤ f.width ∧ f.width ≤ 20
  right : f.col + f.width - 1 ≤ 80
  format : (formatsOf f.var).contains f.format = true

theorem FieldFits.badItem {f : ScreenField} (fits : FieldFits f) : f.badItem = none := by
  obtain ⟨⟨row1, row30⟩, col1, ⟨width1, width20⟩, right, format⟩ := fits
  have rowIn : ¬(f.row < 1 ∨ 30 < f.row) := by omega
  have colIn : ¬(f.col < 1 ∨ 80 < f.col) := by omega
  have widthIn : ¬(f.width < 1 ∨ 20 < f.width ∨ 80 < f.col + f.width - 1) := by omega
  rw [ScreenField.badItem, if_neg rowIn, if_neg colIn, if_neg widthIn, if_pos format]

theorem FieldFits.fieldOf {f : ScreenField} (fits : FieldFits f) : fieldOf (screenFieldBytes f) = f := by
  obtain ⟨⟨row1, row30⟩, col1, ⟨width1, width20⟩, right, format⟩ := fits
  obtain ⟨var20, format3⟩ := var_and_format_of_formatsOf format
  have read : Machine.fieldOf (screenFieldBytes f) =
      ⟨(byte f.row).toNat, (byte f.col).toNat, (byte f.width).toNat, beNat (beBytes 2 f.var), (byte f.format).toNat⟩ :=
    rfl
  rw [read, RecordMemory.byte_toNat_of_lt (by omega), RecordMemory.byte_toNat_of_lt (by omega),
    RecordMemory.byte_toNat_of_lt (by omega), RecordMemory.byte_toNat_of_lt (by omega),
    beNat_beBytes_of_lt 2 _ (by omega)]

theorem badField_eq_none {fs : List ScreenField} (fits : ∀ f ∈ fs, FieldFits f) (j : Nat) : badField j fs = none := by
  induction fs generalizing j with
  | nil => rfl
  | cons f fs ih =>
    rw [badField, (fits f (.head _)).badItem]
    exact ih (fun g hg => fits g (.tail _ hg)) (j + 1)

/-- Fields that fit read back as they were sent. -/
theorem fieldsOf_flatMap {fs : List ScreenField} (fits : ∀ f ∈ fs, FieldFits f) :
    fieldsOf fs.length (fs.flatMap screenFieldBytes) = fs := by
  induction fs with
  | nil => rfl
  | cons f fs ih =>
    rw [List.flatMap_cons, List.length_cons, fieldsOf, List.take_left' (screenFieldBytes_length f),
      List.drop_left' (screenFieldBytes_length f), (fits f (.head _)).fieldOf, ih fun g hg => fits g (.tail _ hg)]

theorem handleScreenFields_open {n : Fin 8} {t : Template} {s : State} {fs : List ScreenField}
    (opened : s.pnc.build = some (n.val, t)) (nonempty : 1 ≤ fs.length) (few : fs.length ≤ 24)
    (room : t.fields.length + fs.length ≤ 48) (fits : ∀ f ∈ fs, FieldFits f) :
    handleScreenFields (byte n.val :: byte fs.length :: fs.flatMap screenFieldBytes) s =
      taken (s.setPnc { s.pnc with build := some (n.val, { t with fields := t.fields ++ fs }) }) := by
  have count : (byte fs.length).toNat = fs.length := RecordMemory.byte_toNat_of_lt (by omega)
  have sent : ¬(6 * fs.length + 1 + 1 < 2 ∨ 6 * fs.length + 1 + 1 ≠ 2 + 6 * fs.length) := by omega
  have countIn : ¬(fs.length < 1 ∨ 24 < fs.length) := by omega
  simp only [handleScreenFields, withSlot_byte, withBuild_open _ opened, List.length_cons, List.getD_cons_succ,
    List.getD_cons_zero, List.drop_succ_cons, List.drop_zero, length_flatMap_screenFieldBytes, count,
    fieldsOf_flatMap fits, badField_eq_none fits, if_neg sent, if_neg countIn, if_neg (Nat.not_lt.mpr room)]
  rfl

theorem exec_loadScreenFields (tag : Byte) (rest : Payload) (s : State) :
    exec (.loadScreenFields tag rest) s = request 0x31 tag (3#8 :: rest) s := rfl

theorem exec_loadScreenFields_free (tag : Byte) {n : Fin 8} {t : Template} {s : State} {fs : List ScreenField}
    (free : s.link.Free) (opened : s.pnc.build = some (n.val, t)) (nonempty : 1 ≤ fs.length) (few : fs.length ≤ 24)
    (room : t.fields.length + fs.length ≤ 48) (fits : ∀ f ∈ fs, FieldFits f) :
    exec (.loadScreenFields tag ([byte n.val, byte fs.length] ++ fs.flatMap screenFieldBytes)) s =
      .next
        ((s.txChoose.setPnc
            { s.pnc with build := some (n.val, { t with fields := t.fields ++ fs }) }).answered
          ⟨0x71, tag, [0x00]⟩) := by
  have kept : s.txChoose.pnc.build = some (n.val, t) := by rw [State.txChoose_pnc, opened]
  rw [exec_loadScreenFields]
  refine request_part_taken tag _ free ?length ((handleScreenFields_open kept nonempty few room fits).trans ?taken)
  case length =>
    simp only [List.cons_append, List.nil_append, List.length_cons, length_flatMap_screenFieldBytes]
    omega
  case taken => rw [State.txChoose_pnc]

/-- Settles O27: one part after the other on a free link; the cells of a text are those writeChars reaches. -/
theorem loadScreenBuildsATemplate : Obligations.LoadScreenBuildsATemplate := by
  unfold Obligations.LoadScreenBuildsATemplate
  intro tag n s free
  refine ⟨fun flag => exec_loadScreenBegin_free tag n flag free, fun t opened =>
    ⟨fun row col text row1 row30 left nonempty right chars => ?text, fun fs nonempty few room each => ?fields,
      exec_loadScreenCommit_free tag free opened⟩⟩
  case text =>
    have fits : TextFits row col text := ⟨⟨row1, row30⟩, left, nonempty, right, all_printable chars⟩
    exact ⟨_, exec_loadScreenText_free tag free opened fits, fun k h => writeChars_getElem text t.cells _ k h⟩
  case fields =>
    refine exec_loadScreenFields_free tag free opened nonempty few room fun f hf => ?_
    obtain ⟨row1, row30, col1, width1, width20, right, format⟩ := each f hf
    exact ⟨⟨row1, row30⟩, col1, ⟨width1, width20⟩, right, format⟩

end Sys2Proof.Machine.ScreenLoading
end

section
/-! PROOFS. Host notes (R171, R174): the number a note takes, the prompt queue after a raise and after a withdrawal, and what
both leave as it is. -/

namespace Sys2Proof.Machine.HostNotes

open Sys2Proof

/-! ## What a raise and a removal leave as they are -/

theorem cmc_of_quiet {s t : State} (h : t.quiet = s.quiet) :
    t.cmc = { s.cmc with conditions := t.cmc.conditions } := by
  have same : ({ t.cmc with conditions := 0 } : Cmc) = { s.cmc with conditions := 0 } := congrArg (·.1) h
  exact congrArg (fun c : Cmc => { c with conditions := t.cmc.conditions }) same

theorem slots_of_quiet {s t : State} (h : t.quiet = s.quiet) : t.pnc.slots = s.pnc.slots :=
  congrArg (·.2.2.1.slots) h

/-- From s to t nothing but the panel's prompts and tone, the conditions and the link has changed. -/
structure OnlyPrompts (s t : State) : Prop where
  cmc : t.cmc = { s.cmc with conditions := t.cmc.conditions }
  rs : t.rs = s.rs
  heads : t.heads = s.heads
  stu : t.stu = s.stu
  trc : t.trc = s.trc
  dlc : t.dlc = s.dlc
  psc : t.psc = s.psc
  rm : t.rm = s.rm
  slots : t.pnc.slots = s.pnc.slots
  pending : t.pending = s.pending

theorem raiseNote_onlyPrompts (s : State) (kind : PromptKind) (source : Nat) (v : Severity) (arg : Nat)
    (text : List Byte) : OnlyPrompts s (s.raiseNote kind source v arg text) where
  cmc := cmc_of_quiet (s.raiseNote_quiet ..)
  rs := s.raiseNote_rs ..
  heads := s.raiseNote_heads ..
  stu := s.raiseNote_stu ..
  trc := s.raiseNote_trc ..
  dlc := s.raiseNote_dlc ..
  psc := s.raiseNote_psc ..
  rm := s.raiseNote_rm ..
  slots := slots_of_quiet (s.raiseNote_quiet ..)
  pending := s.raiseNote_pending ..

theorem removePrompt_onlyPrompts (s : State) (kind : PromptKind) (source : Nat) :
    OnlyPrompts s (s.removePrompt kind source) where
  cmc := cmc_of_quiet (s.removePrompt_quiet ..)
  rs := s.removePrompt_rs ..
  heads := s.removePrompt_heads ..
  stu := s.removePrompt_stu ..
  trc := s.removePrompt_trc ..
  dlc := s.removePrompt_dlc ..
  psc := s.removePrompt_psc ..
  rm := s.removePrompt_rm ..
  slots := slots_of_quiet (s.removePrompt_quiet ..)
  pending := s.removePrompt_pending ..

/-- The transmitter's choice before an operation and the reply after it touch the link alone. -/
theorem OnlyPrompts.answered {s t : State} (kept : OnlyPrompts s.txChoose t) (f : Frame) :
    OnlyPrompts s (t.answered f) where
  cmc := by
    rw [State.answered_cmc, ← s.txChoose_cmc]
    exact kept.cmc
  rs := by rw [State.answered_rs, kept.rs, State.txChoose_rs]
  heads := by rw [State.answered_heads, kept.heads, State.txChoose_heads]
  stu := by rw [State.answered_stu, kept.stu, State.txChoose_stu]
  trc := by rw [State.answered_trc, kept.trc, State.txChoose_trc]
  dlc := by rw [State.answered_dlc, kept.dlc, State.txChoose_dlc]
  psc := by rw [State.answered_psc, kept.psc, State.txChoose_psc]
  rm := by rw [State.answered_rm, kept.rm, State.txChoose_rm]
  slots := by rw [State.answered_pnc, kept.slots, State.txChoose_pnc]
  pending := by rw [State.answered_pending, kept.pending, State.txChoose_pending]

/-! ## The prompt queue (R171) -/

theorem insertPrompt_length (p : Prompt) (l : List Prompt) : (insertPrompt p l).length = l.length + 1 := by
  induction l with
  | nil => rfl
  | cons q qs ih =>
    rw [insertPrompt]
    split
    · rw [List.length_cons, ih, List.length_cons]
    · rfl

/-- The prompt of a raise: its number and time are those of the moment. -/
def promptOf (s : State) (kind : PromptKind) (source : Nat) (v : Severity) (arg : Nat) (text : List Byte) : Prompt :=
  { kind := kind, source := source, severity := v, arg := arg, raiseNo := s.pnc.nextRaise, time := s.cmc.cellTime,
    text := text }

theorem raiseNote_prompts {s : State} {kind : PromptKind} {source : Nat} (v : Severity) (arg : Nat) (text : List Byte)
    (absent : s.pnc.findPrompt kind source = none) :
    (s.raiseNote kind source v arg text).pnc.prompts =
      insertPrompt (promptOf s kind source v arg text) s.pnc.prompts := by
  simp only [State.raiseNote, absent, State.handNotice_pnc, State.setPnc_pnc, Pnc.refreshTone_prompts]
  rfl

theorem removePrompt_prompts {s : State} {kind : PromptKind} {source : Nat}
    (present : (s.pnc.findPrompt kind source).isSome = true) :
    (s.removePrompt kind source).pnc.prompts =
      s.pnc.prompts.filter (fun p => !(p.kind == kind && p.source == source)) := by
  obtain ⟨p, found⟩ := Option.isSome_iff_exists.mp present
  simp only [State.removePrompt, found, State.handNotice_pnc, State.setPnc_pnc, Pnc.refreshTone_prompts]
  rfl

/-! ## RAISE_PROMPT (R174) -/

theorem freeNote_of_lowest {p : Pnc} {k : Nat} (low : 1 ≤ k) (high : k ≤ 4) (free : p.noteInUse k = false)
    (lowest : ∀ j, 1 ≤ j → j < k → p.noteInUse j = true) : p.freeNote = some k := by
  rw [Pnc.freeNote, Config.hostNotes, List.find?_range'_eq_some]
  refine ⟨by rw [free]; rfl, List.mem_range'_1.mpr ⟨low, by omega⟩, fun j one below => ?_⟩
  rw [lowest j one below]
  rfl

theorem findPrompt_of_not_inUse {p : Pnc} {k : Nat} (free : p.noteInUse k = false) :
    p.findPrompt .hostNote k = none := Option.not_isSome_iff_eq_none.mp (by simpa [Pnc.noteInUse] using free)

/-- The three severities a note may have (R174). -/
theorem severityOf_of_mem {code : Byte} {v : Severity}
    (named : (code, v) ∈ [((1 : Byte), Severity.alarm), (2, .action), (3, .info)]) :
    severityOf code.toNat = some v := by
  simp only [List.mem_cons, Prod.mk.injEq, List.not_mem_nil, or_false] at named
  rcases named with ⟨rfl, rfl⟩ | ⟨rfl, rfl⟩ | ⟨rfl, rfl⟩ <;> rfl

theorem handleRaisePrompt_of_free {code : Byte} {v : Severity} {text : List Byte} {k : Nat} {s : State}
    (named : severityOf code.toNat = some v) (short : text.length ≤ 60) (chars : text.all printable = true)
    (number : s.pnc.freeNote = some k) :
    handleRaisePrompt (code :: byte text.length :: text) s =
      (s.raiseNote .hostNote k v 0 text, replyOk [byte k]) := by
  have count : (byte text.length).toNat = text.length := RecordMemory.byte_toNat_of_lt (by omega)
  have sent : ¬(text.length + 1 + 1 < 2 ∨ text.length + 1 + 1 ≠ 2 + text.length) := by omega
  simp only [handleRaisePrompt, List.length_cons, List.getD_cons_succ, List.getD_cons_zero, List.drop_succ_cons,
    List.drop_zero, List.headD_cons, count, named, chars, number, if_neg sent, if_neg (Nat.not_lt.mpr short)]
  rfl

theorem exec_raisePrompt (tag : Byte) (payload : Payload) (s : State) :
    exec (.raisePrompt tag payload) s = request 0x34 tag payload s := rfl

theorem exec_raisePrompt_free (tag : Byte) {code : Byte} {v : Severity} {text : List Byte} {k : Nat} {s : State}
    (free : s.link.Free) (named : severityOf code.toNat = some v) (short : text.length ≤ 60)
    (chars : text.all printable = true) (number : s.pnc.freeNote = some k) :
    exec (.raisePrompt tag (code :: byte text.length :: text)) s =
      .next ((s.txChoose.raiseNote .hostNote k v 0 text).answered ⟨0x74, tag, [0x00, byte k]⟩) := by
  have same : s.txChoose.pnc.freeNote = some k := by rw [State.txChoose_pnc, number]
  rw [exec_raisePrompt]
  refine Consumables.request_of_handler tag free ?length rfl ?handled
  case length =>
    simp only [List.length_cons]
    omega
  case handled =>
    rw [handleRaisePrompt_of_free named short chars same]
    rfl

/-! ## WITHDRAW_PROMPT (R174) -/

theorem handleWithdrawPrompt_number {k : Nat} (s : State) (low : 1 ≤ k) (high : k ≤ 4) :
    handleWithdrawPrompt [byte k] s =
      if s.pnc.noteInUse k then taken (s.removePrompt .hostNote k) else (s, refusal .noSuch 0) := by
  have number : (byte k).toNat = k := RecordMemory.byte_toNat_of_lt (by omega)
  have inside : ¬(k < 1 ∨ 4 < k) := by omega
  simp only [handleWithdrawPrompt, List.headD_cons, number, Config.hostNotes, if_neg inside]
  rfl

theorem exec_withdrawPrompt (tag : Byte) (payload : Payload) (s : State) :
    exec (.withdrawPrompt tag payload) s = request 0x35 tag payload s := rfl

theorem exec_withdrawPrompt_inUse (tag : Byte) {k : Nat} {s : State} (free : s.link.Free) (low : 1 ≤ k) (high : k ≤ 4)
    (used : s.pnc.noteInUse k = true) :
    exec (.withdrawPrompt tag [byte k]) s =
      .next ((s.txChoose.removePrompt .hostNote k).answered ⟨0x75, tag, [0x00]⟩) := by
  rw [exec_withdrawPrompt]
  refine Consumables.request_of_handler tag free (by simp) rfl ?_
  rw [handleWithdrawPrompt_number _ low high, State.txChoose_pnc, if_pos used]
  rfl

theorem exec_withdrawPrompt_notInUse (tag : Byte) {k : Nat} {s : State} (free : s.link.Free) (low : 1 ≤ k)
    (high : k ≤ 4) (unused : s.pnc.noteInUse k = false) :
    exec (.withdrawPrompt tag [byte k]) s = .next (s.txChoose.answered ⟨0x75, tag, [0x06, 0x00]⟩) := by
  rw [exec_withdrawPrompt]
  refine Consumables.request_of_handler tag free (by simp) rfl ?_
  rw [handleWithdrawPrompt_number _ low high, State.txChoose_pnc, unused, if_neg Bool.false_ne_true]
  rfl

/-- Settles O28: a raise inserts one prompt under the lowest free number, a withdrawal filters one out, and OnlyPrompts gives
what stays. -/
theorem hostNotesAreRaisedAndWithdrawn : Obligations.HostNotesAreRaisedAndWithdrawn := by
  unfold Obligations.HostNotesAreRaisedAndWithdrawn
  intro tag s free
  refine ⟨fun code v text k named short chars low high unused lowest => ?raise, fun k low high =>
    ⟨fun used => ?withdraw, fun unused => exec_withdrawPrompt_notInUse tag free low high unused⟩⟩
  case raise =>
    have absent : s.txChoose.pnc.findPrompt .hostNote k = none := by
      rw [State.txChoose_pnc, findPrompt_of_not_inUse unused]
    have queue := raiseNote_prompts v 0 text absent
    have note : promptOf s.txChoose .hostNote k v 0 text = promptOf s .hostNote k v 0 text := by
      rw [promptOf, State.txChoose_pnc, State.txChoose_cmc, promptOf]
    rw [note, State.txChoose_pnc] at queue
    obtain ⟨cmc, rs, heads, stu, trc, dlc, psc, rm, slots, pending⟩ :=
      (raiseNote_onlyPrompts s.txChoose .hostNote k v 0 text).answered ⟨0x74, tag, [0x00, byte k]⟩
    refine ⟨_, exec_raisePrompt_free tag free (severityOf_of_mem named) short (ScreenLoading.all_printable chars)
      (freeNote_of_lowest low high unused lowest), State.answered_answers _ _, ?used, fun p => ?member, ?count, cmc, rs,
      heads, stu, trc, dlc, psc, rm, slots, pending⟩
    case used =>
      rw [State.answered_pnc]
      exact s.txChoose.raiseNote_find ..
    case member =>
      rw [State.answered_pnc, queue, insertPrompt_mem]
      exact or_comm
    case count => rw [State.answered_pnc, queue, insertPrompt_length]
  case withdraw =>
    have present : (s.txChoose.pnc.findPrompt .hostNote k).isSome = true := by rw [State.txChoose_pnc]; exact used
    have queue := removePrompt_prompts present
    rw [State.txChoose_pnc] at queue
    obtain ⟨cmc, rs, heads, stu, trc, dlc, psc, rm, slots, pending⟩ :=
      (removePrompt_onlyPrompts s.txChoose .hostNote k).answered ⟨0x75, tag, [0x00]⟩
    refine ⟨_, exec_withdrawPrompt_inUse tag free low high used, State.answered_answers _ _, ?queue, cmc, rs, heads, stu,
      trc, dlc, psc, rm, slots, pending⟩
    rw [State.answered_pnc, queue]

end Sys2Proof.Machine.HostNotes
end

section
/-! PROOFS. The keys and the tone (R169, R170, R176, R177): a pattern ended by any key, the page keys' walk round the slots, and
the half-period timer settled with the tone. -/

namespace Sys2Proof.Machine.PanelKeys

open Sys2Proof

/-! ## A key and the selection (R170) -/

theorem key_of_pattern {s : State} {p : Pattern} {v : View} (shown : s.pnc.selection = .pattern p v) (f : State → State) :
    s.key f = s.setPnc { s.pnc with selection := .view v } := by
  rw [State.key, shown]

theorem key_of_view {s : State} {v : View} (shown : s.pnc.selection = .view v) (f : State → State) : s.key f = f s := by
  rw [State.key, shown]

/-- The keys of the panel. -/
def IsKey (c : Instr) : Prop :=
  c = .pageNext ∨ c = .pagePrev ∨ c = .pullKey ∨ c = .ack ∨ c = .silence ∨ ∃ k, c = .fKey k

/-- Every key goes through State.key, whatever it means in a view. -/
theorem exec_key {c : Instr} (h : IsKey c) : ∃ f, ∀ s, exec c s = ran (s.key f) := by
  rcases h with rfl | rfl | rfl | rfl | rfl | ⟨k, rfl⟩ <;> exact ⟨_, fun _ => rfl⟩

theorem exec_key_of_pattern {c : Instr} {s : State} {p : Pattern} {v : View} (h : IsKey c)
    (shown : s.pnc.selection = .pattern p v) :
    exec c s = .next (s.setPnc { s.pnc with selection := .view v }).txChoose := by
  obtain ⟨f, means⟩ := exec_key h
  rw [means, key_of_pattern shown]
  rfl

/-! ## The page keys (R169) -/

/-- A walk of eight slots that passes slot 0 stops at its first loaded slot. -/
theorem find_slot_of_walk {p : Pnc} (walk : Nat → Nat) {z : Nat} (low : 1 ≤ z) (high : z ≤ 8) (zero : walk z = 0) :
    ∃ j, 1 ≤ j ∧ j ≤ 8 ∧ p.slotLoaded (walk j) = true ∧ (∀ i, 1 ≤ i → i < j → ¬p.slotLoaded (walk i) = true) ∧
      ((List.range' 1 8).map walk).find? p.slotLoaded = some (walk j) := by
  rw [List.find?_map]
  cases found : (List.range' 1 8).find? (p.slotLoaded ∘ walk) with
  | none =>
    have loaded : p.slotLoaded (walk z) = true := (PanelRequests.slotLoaded_iff p _).mpr (.inl zero)
    exact absurd loaded (List.find?_eq_none.mp found z (List.mem_range'_1.mpr ⟨low, by omega⟩))
  | some j =>
    obtain ⟨loaded, member, before⟩ := List.find?_range'_eq_some.mp found
    obtain ⟨one, nine⟩ := List.mem_range'_1.mp member
    exact ⟨j, one, by omega, loaded, fun i first below => by simpa using before i first below, rfl⟩

theorem not_slotLoaded_iff (p : Pnc) (n : Nat) :
    ¬p.slotLoaded n = true ↔ n ≠ 0 ∧ ((p.slots[n]?).getD none).isSome = false := by
  rw [PanelRequests.slotLoaded_iff, not_or, Bool.not_eq_true]

theorem slotAbove_walk {p : Pnc} (last : p.lastSlot < 8) :
    ∃ j, 1 ≤ j ∧ j ≤ 8 ∧ p.slotLoaded ((p.lastSlot + j) % 8) = true ∧
      (∀ i, 1 ≤ i → i < j → ¬p.slotLoaded ((p.lastSlot + i) % 8) = true) ∧ p.slotAbove = (p.lastSlot + j) % 8 := by
  obtain ⟨j, low, high, loaded, before, found⟩ :=
    find_slot_of_walk (p := p) (fun i => (p.lastSlot + i) % 8) (z := 8 - p.lastSlot) (by omega) (by omega) (by omega)
  exact ⟨j, low, high, loaded, before, by rw [Pnc.slotAbove, found, Option.getD_some]⟩

theorem slotBelow_walk {p : Pnc} (last : p.lastSlot < 8) :
    ∃ j, 1 ≤ j ∧ j ≤ 8 ∧ p.slotLoaded ((p.lastSlot + 8 - j) % 8) = true ∧
      (∀ i, 1 ≤ i → i < j → ¬p.slotLoaded ((p.lastSlot + 8 - i) % 8) = true) ∧
      p.slotBelow = (p.lastSlot + 8 - j) % 8 := by
  obtain ⟨z, low, high, zero⟩ : ∃ z, 1 ≤ z ∧ z ≤ 8 ∧ (p.lastSlot + 8 - z) % 8 = 0 := by
    by_cases first : p.lastSlot = 0
    · exact ⟨8, by omega, by omega, by omega⟩
    · exact ⟨p.lastSlot, by omega, by omega, by omega⟩
  obtain ⟨j, low, high, loaded, before, found⟩ :=
    find_slot_of_walk (p := p) (fun i => (p.lastSlot + 8 - i) % 8) low high zero
  exact ⟨j, low, high, loaded, before, by rw [Pnc.slotBelow, found, Option.getD_some]⟩

section InView

variable {s : State} {v : View} (view : s.pnc.selection = .view v)
include view

theorem exec_pageNext_of_view :
    exec .pageNext s = .next (s.setPnc (s.pnc.showSlot s.pnc.slotAbove)).txChoose :=
  congrArg ran (key_of_view view _)

theorem exec_pagePrev_of_view :
    exec .pagePrev s = .next (s.setPnc (s.pnc.showSlot s.pnc.slotBelow)).txChoose :=
  congrArg ran (key_of_view view _)

theorem exec_pullKey_of_view :
    exec .pullKey s = .next (s.setPnc { s.pnc with selection := .view .classify }).txChoose :=
  congrArg ran (key_of_view view _)

theorem exec_silence_of_view :
    exec .silence s = .next (s.setPnc { s.pnc with silenced := true }.refreshTone).txChoose :=
  congrArg ran (key_of_view view _)

end InView

/-! ## The tone (R177) -/

/-- The half-period timer runs with the tone: one that runs goes on, one that starts begins low. -/
theorem refreshTone_eq (p : Pnc) :
    p.refreshTone =
      if p.sounding then
        { p with toneTimer := some (p.toneTimer.getD p.h), toneHigh := p.toneTimer.isSome && p.toneHigh }
      else { p with toneTimer := none, toneHigh := false } := by
  rw [Pnc.refreshTone]
  cases timer : p.toneTimer with
  | none => rfl
  | some h =>
    have same : p = { p with toneTimer := some h } := by rw [← timer]
    rw [Option.getD_some, Option.isSome_some, Bool.true_and, ← same]

/-- A silenced tone sounds for a chirp only. -/
theorem sounding_silenced (p : Pnc) : ({ p with silenced := true } : Pnc).sounding = p.chirp := by
  simp [Pnc.sounding]

/-- With the chirp over the tone sounds for an alarm that is not silenced. -/
theorem sounding_noChirp (p : Pnc) :
    ({ p with chirp := false } : Pnc).sounding = (p.alarmPresent && !p.silenced) := by
  simp [Pnc.sounding, Pnc.alarmPresent]

theorem exec_chirpTimerExpiry (s : State) :
    exec .chirpTimerExpiry s = .next (s.setPnc { s.pnc with chirp := false }.refreshTone).txChoose := rfl

theorem exec_toneToggle (s : State) :
    exec .toneToggle s =
      .next
        (s.setPnc
          (if s.pnc.toneTimer.isSome then { s.pnc with toneTimer := some s.pnc.h, toneHigh := !s.pnc.toneHigh }
           else s.pnc)).txChoose := by
  have arm : exec .toneToggle s = execToneToggle s := rfl
  rw [arm]
  unfold execToneToggle
  cases s.pnc.toneTimer <;> rfl

/-- Settles O34: a key under a pattern ends it; in a view each key does what it means, the page keys by their walk. -/
theorem panelKeysActOnTheSelection : Obligations.PanelKeysActOnTheSelection := by
  unfold Obligations.PanelKeysActOnTheSelection
  refine ⟨fun c p v s shown key => exec_key_of_pattern key shown, fun v s view last =>
    ⟨?next, ?prev, exec_pullKey_of_view view, ?silence, ?chirp, exec_toneToggle s⟩⟩
  case next =>
    obtain ⟨j, low, high, loaded, before, above⟩ := slotAbove_walk last
    refine ⟨j, low, high, (PanelRequests.slotLoaded_iff _ _).mp loaded,
      fun i first below => (not_slotLoaded_iff _ _).mp (before i first below), ?_⟩
    rw [exec_pageNext_of_view view, above, Pnc.showSlot]
  case prev =>
    obtain ⟨j, low, high, loaded, before, below⟩ := slotBelow_walk last
    refine ⟨j, low, high, (PanelRequests.slotLoaded_iff _ _).mp loaded,
      fun i first lower => (not_slotLoaded_iff _ _).mp (before i first lower), ?_⟩
    rw [exec_pagePrev_of_view view, below, Pnc.showSlot]
  case silence => rw [exec_silence_of_view view, refreshTone_eq, sounding_silenced]
  case chirp => rw [exec_chirpTimerExpiry, refreshTone_eq, sounding_noChirp]

end Sys2Proof.Machine.PanelKeys
end

section
/-! PROOFS. The conditions are sticky through every command (R189): the link's queue and receiver, the panel's keys,
and the commands of the heads, the track and the drives. -/

namespace Sys2Proof.Machine.StickyConditions

open Sys2Proof

/-- No CLEAR_CONDITIONS frame waits (R190). -/
def NoClear (fs : List Frame) : Prop := ∀ f ∈ fs, f.code ≠ 0x10#8

/-- Whatever state an outcome goes on to, the conditions of s are set in it. -/
def Keeps (s : State) (o : Host.Outcome State Fault Refusal) : Prop := ∀ t, o = .next t → Grows s t

theorem Keeps.next {s u : State} (h : Grows s u) : Keeps s (.next u) := by
  rintro t ⟨⟩
  exact h

theorem Keeps.stopped {s : State} (r : Fault) : Keeps s (.fault r) := by
  rintro t ⟨⟩

theorem txChoose_grows (s : State) : Grows s s.txChoose := .of_eq (by simp)

theorem Keeps.ran {s u : State} (h : Grows s u) : Keeps s (ran u) := .next (h.trans (txChoose_grows u))

theorem Keeps.idle (s : State) : Keeps s (Machine.ran s) := .ran (.refl s)

/-! ## Transmitter and dispatcher (R197, R199) -/

/-- The dispatcher takes the oldest frame or none. -/
theorem dispatchOne_cases (s : State) :
    s.dispatchOne = s ∨
      ∃ f fs, s.link.rxQueue = f :: fs ∧ s.dispatchOne = (s.setLink { s.link with rxQueue := fs }).dispatch f := by
  unfold State.dispatchOne
  split
  case h_1 f fs queue _ _ => exact .inr ⟨f, fs, queue, rfl⟩
  case h_2 => exact .inl rfl

theorem dispatchOne_grows {s : State} (none : NoClear s.link.rxQueue) :
    Grows s s.dispatchOne ∧ NoClear s.dispatchOne.link.rxQueue := by
  obtain same | ⟨f, fs, queue, taken⟩ := dispatchOne_cases s
  · rw [same]
    exact ⟨.refl s, none⟩
  · rw [queue] at none
    rw [taken, (State.dispatch_sane _ f).rxQueue]
    exact ⟨(s.setLink_grows _).trans (State.dispatch_grows _ f (none f List.mem_cons_self)),
      fun g hg => none g (List.mem_cons_of_mem _ hg)⟩

theorem settle_grows (n : Nat) {s : State} (none : NoClear s.link.rxQueue) :
    Grows s (s.settle n) ∧ NoClear (s.settle n).link.rxQueue := by
  induction n generalizing s with
  | zero => exact ⟨txChoose_grows s, by rwa [State.settle, State.txChoose_rxQueue]⟩
  | succ n ih =>
    have chosen : NoClear s.txChoose.link.rxQueue := by rwa [State.txChoose_rxQueue]
    obtain ⟨grown, left⟩ := dispatchOne_grows chosen
    obtain ⟨later, rest⟩ := ih left
    exact ⟨(txChoose_grows s).trans (grown.trans later), rest⟩

theorem settleLink_grows {s : State} (none : NoClear s.link.rxQueue) :
    Grows s s.settleLink ∧ NoClear s.settleLink.link.rxQueue := settle_grows _ none

theorem enqueueFrame_grows {s : State} {f : Frame} (none : NoClear s.link.rxQueue) (other : f.code ≠ 0x10#8) :
    Grows s (s.enqueueFrame f) ∧ NoClear (s.enqueueFrame f).link.rxQueue := by
  unfold State.enqueueFrame
  split
  case isTrue =>
    refine ⟨s.setLink_grows _, fun g hg => ?_⟩
    obtain waiting | offered := List.mem_append.mp hg
    · exact none g waiting
    · rwa [List.mem_singleton.mp offered]
  case isFalse =>
    refine ⟨s.setCondition_grows _, ?_⟩
    rwa [State.quiet_rxQueue (s.setCondition_quiet .linkOverrun)]

theorem offerFrame_grows {s : State} {f : Frame} (none : NoClear s.link.rxQueue) (other : f.code ≠ 0x10#8) :
    Grows s (s.offerFrame f) := by
  obtain ⟨before, left⟩ := settleLink_grows none
  obtain ⟨taken, queued⟩ := enqueueFrame_grows left other
  exact before.trans (taken.trans (settleLink_grows queued).1)

/-! ## The receiver (R195) -/

theorem setReceiver_grows (s : State) (r : Receiver) : Grows s (s.setReceiver r) := s.setLink_grows _

theorem framingError_grows (s : State) : Grows s s.framingError :=
  (setReceiver_grows s .hunt).trans (State.setCondition_grows _ _)

/-- A body's first byte is its frame's code; a body of no byte has code 0. -/
theorem frameOfBody_code {bytes : List Byte} (other : ∀ code rest, bytes = code :: rest → code ≠ 0x10#8) :
    (frameOfBody bytes).code ≠ 0x10#8 := by
  match bytes with
  | [] => decide
  | [code] => exact other code [] rfl
  | code :: tag :: rest => exact other code (tag :: rest) rfl

theorem judgeFrame_grows {s : State} (len : Nat) {bytes : List Byte} (high low : Byte) (none : NoClear s.link.rxQueue)
    (other : ∀ code rest, bytes = code :: rest → code ≠ 0x10#8) : Grows s (s.judgeFrame len bytes high low) := by
  simp only [State.judgeFrame]
  split
  · exact (setReceiver_grows s .hunt).trans (offerFrame_grows none (frameOfBody_code other))
  · exact (setReceiver_grows s .hunt).trans (State.setCondition_grows _ _)

theorem receive_grows {s : State} (b : Byte) (none : NoClear s.link.rxQueue)
    (other : ∀ len code rest high, s.link.rx = .crc len (code :: rest) high → code ≠ 0x10#8) :
    Grows s (s.receive b) := by
  unfold State.receive
  split
  case h_1 =>
    split
    · exact setReceiver_grows s _
    · exact .refl s
  case h_2 =>
    split
    · exact setReceiver_grows s _
    · exact framingError_grows s
  case h_3 =>
    dsimp only
    split <;> exact setReceiver_grows s _
  case h_4 => exact setReceiver_grows s _
  case h_5 len bytes high rx =>
    refine judgeFrame_grows len high b none fun code rest body => ?_
    exact other len code rest (some high) (by rw [rx, body])

/-! ## The link's own commands -/

theorem execLinkByteReceived_keeps (b : Byte) (stopBit : Bool) {s : State} (none : NoClear s.link.rxQueue)
    (other : stopBit = true → ∀ len code rest high, s.link.rx = .crc len (code :: rest) high → code ≠ 0x10#8) :
    Keeps s (execLinkByteReceived b stopBit s) := by
  refine .ran ?_
  unfold State.receiveByte
  split
  case isTrue good => exact receive_grows b none (other good)
  case isFalse =>
    split
    · exact .refl s
    · exact framingError_grows s

theorem execLinkGapTimeout_keeps (s : State) : Keeps s (execLinkGapTimeout s) := by
  refine .ran ?_
  split
  · exact .refl s
  · exact framingError_grows s

theorem frameSent_grows {s : State} (none : NoClear s.link.rxQueue) : Grows s s.frameSent := by
  have chosen : NoClear s.txChoose.link.rxQueue := by rwa [State.txChoose_rxQueue]
  refine (txChoose_grows s).trans ?_
  simp only [State.frameSent]
  split
  case h_1 => exact .refl _
  case h_2 =>
    have sent := s.txChoose.setLink_grows { s.txChoose.link with tx := .none }
    have queued : NoClear (s.txChoose.setLink { s.txChoose.link with tx := .none }).link.rxQueue := chosen
    split
    · exact sent.trans (State.setLink_grows _ _)
    · exact sent.trans (settleLink_grows queued).1

/-- A request frame is offered, or is no frame. -/
theorem exec_request_keeps {c : Instr} {f : Frame} {s : State} (frame : c.frame = some f) (other : f.code ≠ 0x10#8)
    (none : NoClear s.link.rxQueue) : Keeps s (exec c s) := by
  rw [exec_request c f s frame]
  split
  · exact .next (offerFrame_grows none other)
  · exact .stopped _

/-! ## The cell -/

theorem execHaltInputAsserted_keeps (s : State) : Keeps s (execHaltInputAsserted s) := by
  have raised : Grows s (s.setCmc { s.cmc with haltInput := true }) := .of_eq rfl
  refine .ran ?_
  split
  · exact raised
  · exact raised.trans (State.enterHalt_grows _ 6)

theorem execDrainComplete_keeps (s : State) : Keeps s (execDrainComplete s) := by
  refine .ran ?_
  split
  · exact s.changeMode_grows .setup 5
  · exact .refl s

/-! ## The panel -/

theorem applyTiming_grows (s : State) : Grows s s.applyTiming := by
  simp only [State.applyTiming]
  split
  case h_1 => exact .refl s
  case h_2 t _ =>
    have timed := s.setPnc_grows { s.pnc with timing := t, pendingTiming := none }
    split
    · exact timed.trans (State.setCondition_grows _ _)
    · exact timed

theorem startFrame_grows (s : State) : Grows s s.startFrame :=
  ((applyTiming_grows s).trans (State.setPnc_grows _ _)).trans (State.setPnc_grows _ _)

theorem execLockInputChange_keeps (locked : Bool) (s : State) : Keeps s (execLockInputChange locked s) := by
  have read := s.setPnc_grows { s.pnc with locked := locked }
  refine .ran ?_
  split
  · exact read.trans (State.setCondition_grows _ _)
  · exact read

theorem key_keeps {s : State} {f : State → State} (h : Grows s (f s)) : Keeps s (ran (s.key f)) := by
  refine .ran ?_
  unfold State.key
  split
  · exact s.setPnc_grows _
  · exact h

theorem pressF_grows (s : State) (k : Nat) : Grows s (s.pressF k) := by
  unfold State.pressF
  split
  case h_1 => exact .refl s
  case h_2 =>
    split
    · exact s.classifyPull_grows _ _ _
    · exact s.chirp_grows
  case h_3 =>
    split
    · split
      · exact s.handNotice_grows _
      · exact s.chirp_grows
    · exact s.chirp_grows

theorem promptAck_grows (s : State) (p : Prompt) : Grows s (s.promptAck p) := s.writeEvent_grows _ _ _

theorem ackRemoves_grows (s : State) (p : Prompt) : Grows s (s.ackRemoves p) :=
  (s.removePrompt_grows _ _).trans (promptAck_grows _ p)

theorem ackHead_grows (s : State) (p : Prompt) : Grows s (s.ackHead p) := by
  unfold State.ackHead
  split
  · exact s.chirp_grows
  · split
    · exact (s.resume_grows _ _).trans (ackRemoves_grows _ p)
    · exact s.chirp_grows

theorem ackPrompt_grows (s : State) (p : Prompt) : Grows s (s.ackPrompt p) := by
  have chirped := s.chirp_grows
  have removed := ackRemoves_grows s p
  unfold State.ackPrompt
  cases p.kind with
  | haltActive | inputChange | outputChange | tempOut | classifyPending => exact chirped
  | capWarning | spoolLow | hostNote => exact removed
  | headStop => exact ackHead_grows s p
  | trackCheck =>
    have checked : Grows s (s.setCmc { s.cmc with trackCheck := true }) := .of_eq rfl
    exact checked.trans (ackRemoves_grows _ p)
  | qualityHold =>
    dsimp only
    split
    · exact (s.clearQualityHold_grows 2).trans (promptAck_grows _ p)
    · exact chirped
  | driveStop =>
    dsimp only
    split
    · exact s.ackTrack_grows.trans (ackRemoves_grows _ p)
    · exact s.ackPull_grows.trans (ackRemoves_grows _ p)

theorem pressAck_grows (s : State) : Grows s s.pressAck := by
  unfold State.pressAck
  split
  · exact s.chirp_grows
  · exact ackPrompt_grows s _

theorem execToneToggle_keeps (s : State) : Keeps s (execToneToggle s) := by
  refine .ran ?_
  split
  · exact s.setPnc_grows _
  · exact .refl s

/-! ## The heads: a signal acts in its phase and is ignored outside it -/

theorem execContactEdge_keeps (h : HeadId) (z : BitVec 16) (s : State) : Keeps s (execContactEdge h z s) := by
  simp only [execContactEdge]
  repeat' split
  · exact .ran (s.contact_grows ..)
  all_goals exact .idle s

theorem execContactWaitExpiry_keeps (h : HeadId) (s : State) : Keeps s (execContactWaitExpiry h s) := by
  simp only [execContactWaitExpiry]
  repeat' split
  · exact .ran (s.searchFailed_grows ..)
  all_goals exact .idle s

theorem execPowerSample_keeps (h : HeadId) (word : Nat) (s : State) : Keeps s (execPowerSample h word s) := by
  simp only [execPowerSample]
  repeat' split
  · exact .ran (s.setHead_grows ..)
  all_goals exact .idle s

theorem execPreStageEnd_keeps (h : HeadId) (s : State) : Keeps s (execPreStageEnd h s) := by
  simp only [execPreStageEnd]
  repeat' split
  · exact .ran (s.setHead_grows ..)
  all_goals exact .idle s

theorem execWeldTimerExpiry_keeps (h : HeadId) (z : BitVec 16) (s : State) : Keeps s (execWeldTimerExpiry h z s) := by
  simp only [execWeldTimerExpiry]
  repeat' split
  · exact .ran (s.weldExpired_grows ..)
  all_goals exact .idle s

theorem execCheckResult_keeps (h : HeadId) (attached : Bool) (s : State) : Keeps s (execCheckResult h attached s) := by
  simp only [execCheckResult]
  repeat' split
  · exact .ran (s.checkEnded_grows ..)
  all_goals exact .idle s

theorem execSparkResult_keeps (h : HeadId) (ok : Bool) (s : State) : Keeps s (execSparkResult h ok s) := by
  simp only [execSparkResult]
  repeat' split
  · exact .ran (s.sparkSucceeded_grows ..)
  · exact .ran (s.sparkOpen_grows ..)
  · exact .idle s

theorem execSparkTimerExpiry_keeps (h : HeadId) (s : State) : Keeps s (execSparkTimerExpiry h s) := by
  simp only [execSparkTimerExpiry]
  split
  · exact .ran (s.sparkOpen_grows ..)
  · exact .idle s

theorem execFeedPulse_keeps (h : HeadId) (s : State) : Keeps s (execFeedPulse h s) :=
  .ran ((s.setHead_grows _ _).trans (State.judgeSpool_grows _ h))

theorem execWireBreakAsserted_keeps (h : HeadId) (s : State) : Keeps s (execWireBreakAsserted h s) := by
  refine .ran ?_
  split
  · exact .refl s
  · exact (s.setHead_grows _ _).trans (State.wireBreak_grows _ h)

theorem execWireStart_keeps (h : HeadId) (s : State) : Keeps s (execWireStart h s) := by
  simp only [execWireStart]
  repeat' split
  · exact .ran (s.tryWire_grows ..)
  all_goals exact .idle s

/-! ## The track and the pull station -/

theorem execFeed_keeps (s : State) : Keeps s (execFeed s) := by
  simp only [execFeed]
  repeat' split
  · exact .ran (s.tryFeed_grows _)
  all_goals exact .idle s

theorem execTrackSequenceStart_keeps (s : State) : Keeps s (execTrackSequenceStart s) := by
  simp only [execTrackSequenceStart]
  repeat' split
  · exact .ran (s.startSequence_grows _)
  · exact .ran (s.startSequence_grows _)
  · exact .idle s

theorem execStore_keeps (s : State) : Keeps s (execStore s) := by
  simp only [execStore]
  split
  · split
    · exact .ran ((s.setTrc_grows _).trans (State.handOver_grows _ _ _))
    · exact .idle s
  · split
    · exact .ran s.outputPromptTest_grows
    · exact .idle s

theorem execPullStart_keeps (s : State) : Keeps s (execPullStart s) := by
  simp only [execPullStart]
  repeat' split
  · exact .ran (s.tryPull_grows _)
  all_goals exact .idle s

theorem execPreheatDwellExpiry_keeps (s : State) : Keeps s (execPreheatDwellExpiry s) := by
  refine .ran ?_
  split
  · exact s.setTrc_grows _
  all_goals exact .refl s

/-! ## The Drive Line -/

theorem execCommandExchange_keeps (s : State) : Keeps s (execCommandExchange s) := by
  simp only [execCommandExchange]
  split
  · exact .ran (s.sendCommand_grows _ _)
  · exact .idle s

theorem execPoll_keeps (s : State) : Keeps s (execPoll s) := by
  simp only [execPoll]
  split
  · exact .ran (s.setDlc_grows _)
  · exact .idle s

theorem execStop_keeps (s : State) : Keeps s (execStop s) := by
  simp only [execStop]
  split
  · exact .ran (s.setDlc_grows _)
  · exact .idle s

theorem execAnswerCharacter_keeps (char : LineChar) (s : State) : Keeps s (execAnswerCharacter char s) := by
  simp only [execAnswerCharacter]
  split
  · exact .ran (s.answer_grows _ _ char)
  all_goals exact .idle s

theorem execAnswerWindowExpiry_keeps (s : State) : Keeps s (execAnswerWindowExpiry s) := by
  simp only [execAnswerWindowExpiry]
  repeat' split
  · exact .ran (s.setLine_grows _)
  · exact .ran ((s.setLine_grows _).trans (State.noAnswer_grows _ _))
  all_goals exact .idle s

theorem execStatusFrameCharacter_keeps (char : LineChar) (s : State) : Keeps s (execStatusFrameCharacter char s) := by
  simp only [execStatusFrameCharacter]
  split
  · exact .ran (s.statusChar_grows _ _ char)
  all_goals exact .idle s

theorem execStatusWindowExpiry_keeps (s : State) : Keeps s (execStatusWindowExpiry s) := by
  simp only [execStatusWindowExpiry]
  split
  · exact .ran s.badStatus_grows
  all_goals exact .idle s

theorem execOperationTimeout_keeps (d : Drive) (s : State) : Keeps s (execOperationTimeout d s) := by
  refine .ran ?_
  split
  · exact s.timedOut_grows d
  · exact .refl s

/-! ## Every command -/

/-- Every command that is no request, but for the resets: those of the link may dispatch a waiting frame. -/
theorem exec_own_keeps {c : Instr} {s : State} (own : c.frame = none) (noPower : ∀ p, c ≠ .powerOnReset p)
    (noWarm : c ≠ .warmRestartReset) (waiting : NoClear s.link.rxQueue)
    (arriving : ∀ b len code bytes high, c = .linkByteReceived b true →
      s.link.rx = .crc len (code :: bytes) high → code ≠ 0x10#8) : Keeps s (exec c s) := by
  cases c
  case powerOnReset p => exact absurd rfl (noPower p)
  case warmRestartReset => exact absurd rfl noWarm
  case linkByteReceived b stopBit =>
    refine execLinkByteReceived_keeps b stopBit waiting fun good len code rest high => ?_
    exact arriving b len code rest high (by rw [good])
  case linkGapTimeout => exact execLinkGapTimeout_keeps s
  case frameSent => exact .ran (frameSent_grows waiting)
  case lotClose => exact .ran s.lotCloseTest_grows
  case haltInputAsserted => exact execHaltInputAsserted_keeps s
  case haltInputReleased => exact .ran (.of_eq rfl)
  case frameStart => exact .ran (startFrame_grows s)
  case lockInputChange locked => exact execLockInputChange_keeps locked s
  case keyswitchChange => exact .ran (s.setPnc_grows _)
  case pageNext => exact key_keeps (s.setPnc_grows _)
  case pagePrev => exact key_keeps (s.setPnc_grows _)
  case pullKey => exact key_keeps (s.setPnc_grows _)
  case ack => exact key_keeps (pressAck_grows s)
  case silence => exact key_keeps (s.setPnc_grows _)
  case fKey key => exact key_keeps (pressF_grows s _)
  case chirpTimerExpiry => exact .ran (s.setPnc_grows _)
  case toneToggle => exact execToneToggle_keeps s
  case contactEdge h z => exact execContactEdge_keeps h z s
  case contactWaitExpiry h => exact execContactWaitExpiry_keeps h s
  case powerSample h word => exact execPowerSample_keeps h word s
  case preStageEnd h => exact execPreStageEnd_keeps h s
  case weldTimerExpiry h z => exact execWeldTimerExpiry_keeps h z s
  case checkResult h attached => exact execCheckResult_keeps h attached s
  case checkTimerExpiry h => exact execCheckResult_keeps h false s -- a late result is detached (R31)
  case sparkResult h ok => exact execSparkResult_keeps h ok s
  case sparkTimerExpiry h => exact execSparkTimerExpiry_keeps h s
  case feedPulse h => exact execFeedPulse_keeps h s
  case wireBreakAsserted h => exact execWireBreakAsserted_keeps h s
  case wireBreakReleased h => exact .ran (s.setHead_grows _ _)
  case bandGrant => exact .ran s.decideBand_grows
  case wireStart h => exact execWireStart_keeps h s
  case feed => exact execFeed_keeps s
  case trackSequenceStart => exact execTrackSequenceStart_keeps s
  case store => exact execStore_keeps s
  case pullStart => exact execPullStart_keeps s
  case drainComplete => exact execDrainComplete_keeps s
  case preheatDwellExpiry => exact execPreheatDwellExpiry_keeps s
  case commandExchange => exact execCommandExchange_keeps s
  case poll => exact execPoll_keeps s
  case stop => exact execStop_keeps s
  case attentionChange => exact .ran (s.setDrive_grows _ _)
  case answerCharacter char => exact execAnswerCharacter_keeps char s
  case answerWindowExpiry => exact execAnswerWindowExpiry_keeps s
  case statusFrameCharacter char => exact execStatusFrameCharacter_keeps char s
  case statusWindowExpiry => exact execStatusWindowExpiry_keeps s
  case operationTimeout d => exact execOperationTimeout_keeps d s
  all_goals cases own

/-- Settles O60: a request's frame is offered, every other command keeps the conditions by itself. -/
theorem conditionsAreSticky : Obligations.ConditionsAreSticky := by
  unfold Obligations.ConditionsAreSticky
  intro c s t noPower noWarm other waiting arriving run i _ set
  have kept : Keeps s (exec c s) := by
    cases frame : c.frame with
    | some f => exact exec_request_keeps frame (other f frame) waiting
    | none => exact exec_own_keeps frame noPower noWarm waiting arriving
  exact (kept t run).keeps i set

end Sys2Proof.Machine.StickyConditions
end

section
/-! PROOFS. Requests on a free link (R197, R198): what dispatch answers, and the requests of the SLI itself
(R201, R202). -/

namespace Sys2Proof.Machine.LinkRequests

open Sys2Proof

/-! ## Dispatch on a free link (R197) -/

theorem dispatch_txChoose (s : State) (f : Frame) :
    (s.dispatch f).txChoose = (s.handle f).1.answered ⟨replyCode f.code, f.tag, (s.handle f).2⟩ := rfl

theorem exec_request_free {c : Instr} {f : Frame} {s : State} (frame : c.frame = some f)
    (fits : f.payload.length ≤ 248) (free : s.link.Free) :
    exec c s =
      .next ((s.txChoose.handle f).1.answered ⟨replyCode f.code, f.tag, (s.txChoose.handle f).2⟩) := by
  rw [exec_request c f s frame, if_pos fits, s.offerFrame_free f free, dispatch_txChoose]

theorem exec_request_overlong {c : Instr} {f : Frame} (s : State) (frame : c.frame = some f)
    (long : 248 < f.payload.length) : exec c s = .fault .payloadTooLong := by
  rw [exec_request c f s frame, if_neg (Nat.not_le.mpr long)]

/-- A code of no request has no owner: the reply names the code, and nothing else happens (R197). -/
theorem handle_unlisted {f : Frame} (s : State) (unlisted : requestCodes.contains f.code.toNat = false) :
    s.handle f = (s, [0x01, f.code]) := by
  have detail : byte f.code.toNat = f.code := by simp [byte]
  simp only [State.handle, handlerOf_unlisted _ unlisted, refusal, detail]
  rfl

theorem exec_unknownCode_free (tag : Byte) {code : Byte} {p : Payload} {s : State}
    (unlisted : requestCodes.contains code.toNat = false) (fits : p.length ≤ 248) (free : s.link.Free) :
    exec (.unknownCode code tag p) s = .next (s.txChoose.answered ⟨replyCode code, tag, [0x01, code]⟩) := by
  have answer : s.txChoose.handle ⟨code, tag, p⟩ = (s.txChoose, [0x01, code]) := handle_unlisted _ unlisted
  rw [exec_request_free rfl fits free, answer]

/-- Settles O8: a request on a free link is dispatched, whether its code has an owner or none; one too long faults. -/
theorem freeLinkAnswersEveryRequest : Obligations.FreeLinkAnswersEveryRequest := by
  unfold Obligations.FreeLinkAnswersEveryRequest
  refine ⟨?dispatched, ?unknown, ?overlong⟩
  case dispatched =>
    intro c f s frame fits free
    exact exec_request_free frame fits free
  case unknown =>
    intro code tag p s unlisted fits free
    exact exec_unknownCode_free tag unlisted fits free
  case overlong =>
    intro c f s frame long
    exact exec_request_overlong s frame long

/-! ## LINK_ECHO (R202) -/

theorem exec_linkEcho (tag : Byte) (payload : Payload) (s : State) :
    exec (.linkEcho tag payload) s = request 0x02 tag payload s := rfl

theorem exec_linkEcho_short (tag : Byte) {p : Payload} {s : State} (free : s.link.Free) (short : p.length ≤ 247) :
    exec (.linkEcho tag p) s = .next (s.txChoose.answered ⟨0x42, tag, 0x00 :: p⟩) := by
  rw [exec_linkEcho]
  refine Consumables.request_of_handler tag free (by omega) rfl ?_
  rw [handleLinkEcho, if_pos short]
  rfl

/-- The reply has no room for the status and 248 bytes more. -/
theorem exec_linkEcho_full (tag : Byte) {p : Payload} {s : State} (free : s.link.Free) (full : p.length = 248) :
    exec (.linkEcho tag p) s = .next (s.txChoose.answered ⟨0x42, tag, [0x02, 0x00]⟩) := by
  rw [exec_linkEcho]
  refine Consumables.request_of_handler tag free (by omega) rfl ?_
  rw [handleLinkEcho, if_neg (by omega)]
  rfl

/-- Settles O9: one equation for each side of the reply's room. -/
theorem linkEchoReturnsThePayload : Obligations.LinkEchoReturnsThePayload := by
  unfold Obligations.LinkEchoReturnsThePayload
  intro tag p s free
  exact ⟨exec_linkEcho_short tag free, exec_linkEcho_full tag free⟩

/-! ## IDENTIFY (R201) -/

theorem noPayload_nil (s : State) (f : State → State × Payload) : noPayload [] s f = f s := if_pos rfl

theorem noPayload_of_ne {p : Payload} (s : State) (f : State → State × Payload) (given : p ≠ []) :
    noPayload p s f = (s, refusal .badLength 0) := if_neg given

theorem exec_identify (tag : Byte) (payload : Payload) (s : State) :
    exec (.identify tag payload) s = request 0x01 tag payload s := rfl

theorem exec_identify_empty (tag : Byte) {s : State} (free : s.link.Free) :
    exec (.identify tag []) s =
      .next
        (s.txChoose.answered
          ⟨0x41, tag,
            [0x00, 0x4B, 0x42, 0x32, 3, if s.link.fast then 1 else 0, 4, 16, 0x02, 0x00, 64, 32, 5, 0x10, 0x00, 24,
              32]⟩) := by
  rw [exec_identify]
  refine Consumables.request_of_handler tag free (by simp) rfl ?_
  rw [handleIdentify, noPayload_nil, State.txChoose_fast]
  rfl

theorem exec_identify_given (tag : Byte) {p : Payload} {s : State} (free : s.link.Free) (fits : p.length ≤ 248)
    (given : p ≠ []) : exec (.identify tag p) s = .next (s.txChoose.answered ⟨0x41, tag, [0x02, 0x00]⟩) := by
  rw [exec_identify]
  refine Consumables.request_of_handler tag free fits rfl ?_
  rw [handleIdentify, noPayload_of_ne _ _ given]
  rfl

/-- Settles O10: the report on no payload, BAD_LENGTH on any other. -/
theorem identifyReportsThePart : Obligations.IdentifyReportsThePart := by
  unfold Obligations.IdentifyReportsThePart
  intro tag p s free fits
  refine ⟨?_, exec_identify_given tag free fits⟩
  rintro rfl
  exact exec_identify_empty tag free

end Sys2Proof.Machine.LinkRequests
end

section
/-! PROOFS. The receiver (R194, R195): its table byte by byte, and the bytes of a whole frame read back. -/

namespace Sys2Proof.Machine.Receiving

open Sys2Proof

/-! ## One byte (R195) -/

theorem exec_linkByteReceived (b : Byte) (s : State) :
    exec (.linkByteReceived b true) s = .next (s.receive b).txChoose := rfl

theorem exec_linkByteReceived_noStop (b : Byte) (s : State) :
    exec (.linkByteReceived b false) s = .next (if s.link.rx = .hunt then s else s.framingError).txChoose := rfl

theorem exec_linkGapTimeout (s : State) :
    exec .linkGapTimeout s = .next (if s.link.rx = .hunt then s else s.framingError).txChoose := rfl

section
variable {s : State} {b : Byte}

theorem receive_start (hunting : s.link.rx = .hunt) : s.receive 0xA5#8 = s.setReceiver .length := by
  rw [State.receive, hunting]
  rfl

theorem receive_other (hunting : s.link.rx = .hunt) (other : b ≠ 0xA5#8) : s.receive b = s := by
  rw [State.receive, hunting]
  exact if_neg other

theorem receive_length (rx : s.link.rx = .length) (low : 2 ≤ b.toNat) (high : b.toNat ≤ 250) :
    s.receive b = s.setReceiver (.body b.toNat []) := by
  rw [State.receive, rx]
  exact if_pos ⟨low, high⟩

theorem receive_length_bad (rx : s.link.rx = .length) (bad : b.toNat < 2 ∨ 250 < b.toNat) :
    s.receive b = s.framingError := by
  rw [State.receive, rx]
  exact if_neg (by omega)

theorem receive_body {len : Nat} {bytes : List Byte} (rx : s.link.rx = .body len bytes)
    (more : bytes.length + 1 < len) : s.receive b = s.setReceiver (.body len (bytes ++ [b])) := by
  rw [State.receive, rx]
  exact if_neg (by simp; omega)

theorem receive_body_last {len : Nat} {bytes : List Byte} (rx : s.link.rx = .body len bytes)
    (last : len ≤ bytes.length + 1) : s.receive b = s.setReceiver (.crc len (bytes ++ [b]) none) := by
  rw [State.receive, rx]
  exact if_pos (by simpa using last)

theorem receive_crc_first {len : Nat} {bytes : List Byte} (rx : s.link.rx = .crc len bytes none) :
    s.receive b = s.setReceiver (.crc len bytes (some b)) := by
  rw [State.receive, rx]

theorem receive_crc_second {len : Nat} {bytes : List Byte} {high : Byte} (rx : s.link.rx = .crc len bytes (some high)) :
    s.receive b = s.judgeFrame len bytes high b := by
  rw [State.receive, rx]

end

/-- Two bytes are those of a 16-bit number when they give it back, high byte first. -/
theorem beBytes_two_eq_iff (x : BitVec 16) (high low : Byte) :
    beBytes 2 x.toNat = [high, low] ↔ high.toNat * 256 + low.toNat = x.toNat := by
  have bound := x.isLt
  constructor
  · intro same
    have value := beNat_beBytes_of_lt 2 x.toNat bound
    rw [same] at value
    simpa [beNat] using value
  · intro value
    have upper : BitVec.ofNat 8 (x.toNat / 256) = high := BitVec.eq_of_toNat_eq (by simp; omega)
    have lower : BitVec.ofNat 8 x.toNat = low := BitVec.eq_of_toNat_eq (by simp; omega)
    simp [beBytes, upper, lower]

theorem judgeFrame_eq (s : State) (len : Nat) (code tag : Byte) (p : Payload) (high low : Byte) :
    s.judgeFrame len (code :: tag :: p) high low =
      if high.toNat * 256 + low.toNat = (crc16 (byte len :: code :: tag :: p)).toNat then
        (s.setReceiver .hunt).offerFrame ⟨code, tag, p⟩
      else (s.setReceiver .hunt).setCondition .linkCrc := by
  simp only [State.judgeFrame, beBytes_two_eq_iff, frameOfBody]

/-- Settles O6: one equation of the receiver for each row of the table. -/
theorem receiverTakesOneByte : Obligations.ReceiverTakesOneByte := by
  unfold Obligations.ReceiverTakesOneByte
  intro b s
  refine ⟨?start, ?other, ?length, ?bad, ?body, ?first, ?second, ?hunting, ?elsewhere⟩
  case start =>
    rintro hunting rfl
    rw [exec_linkByteReceived, receive_start hunting]
    rfl
  case other =>
    intro hunting other
    rw [exec_linkByteReceived, receive_other hunting other]
  case length =>
    intro rx low high
    rw [exec_linkByteReceived, receive_length rx low high]
    rfl
  case bad =>
    intro rx bad
    rw [exec_linkByteReceived, receive_length_bad rx bad]
    rfl
  case body =>
    intro len bytes rx
    constructor
    · intro more
      rw [exec_linkByteReceived, receive_body rx more]
      rfl
    · intro last
      rw [exec_linkByteReceived, receive_body_last rx last]
      rfl
  case first =>
    intro len bytes rx
    rw [exec_linkByteReceived, receive_crc_first rx]
    rfl
  case second =>
    intro len code tag high p rx
    rw [exec_linkByteReceived, receive_crc_second rx, judgeFrame_eq]
    split <;> rfl
  case hunting =>
    intro hunting
    rw [exec_linkByteReceived_noStop, exec_linkGapTimeout, if_pos hunting]
    exact ⟨rfl, rfl⟩
  case elsewhere =>
    intro outside
    rw [exec_linkByteReceived_noStop, exec_linkGapTimeout, if_neg outside]
    exact ⟨rfl, rfl⟩

/-! ## A whole frame (R194) -/

/-- The commands of good bytes. -/
def goodBytes (bs : List Byte) : List Instr := bs.map fun b => .linkByteReceived b true

theorem execAll_goodBytes_cons (b : Byte) (bs : List Byte) (s : State) :
    execAll (goodBytes (b :: bs)) s = execAll (goodBytes bs) (s.receive b).txChoose := rfl

theorem setReceiver_setReceiver (s : State) (r q : Receiver) : (s.setReceiver r).setReceiver q = s.setReceiver q := rfl

/-- A receiver set to the state it is in. -/
theorem setReceiver_self {s : State} {r : Receiver} (rx : s.link.rx = r) : s.setReceiver r = s := by
  subst rx
  rfl

section
variable {u : State}

/-- A byte that only moves the receiver: the transmitter had nothing to choose, and has nothing to choose now. -/
theorem execAll_step (settled : u.txChoose = u) {r q : Receiver} {b : Byte} (bs : List Byte)
    (moves : (u.setReceiver r).receive b = u.setReceiver q) :
    execAll (goodBytes (b :: bs)) (u.setReceiver r) = execAll (goodBytes bs) (u.setReceiver q) := by
  rw [execAll_goodBytes_cons, moves, State.setReceiver_txChoose, settled]

/-- The bytes of a body, taken one by one, stand in the receiver. -/
theorem execAll_body (settled : u.txChoose = u) {len : Nat} {body : List Byte} (rest : List Byte) (some : body ≠ []) :
    ∀ taken : List Byte, taken.length + body.length = len →
      execAll (goodBytes (body ++ rest)) (u.setReceiver (.body len taken)) =
        execAll (goodBytes rest) (u.setReceiver (.crc len (taken ++ body) none)) := by
  induction body with
  | nil => exact absurd rfl some
  | cons b bs ih =>
    intro taken total
    rw [List.length_cons] at total
    cases bs with
    | nil => exact execAll_step settled rest (receive_body_last rfl (by simp at total; omega))
    | cons c cs =>
      have more : taken.length + 1 < len := by rw [List.length_cons] at total; omega
      have moves : (u.setReceiver (.body len taken)).receive b = u.setReceiver (.body len (taken ++ [b])) :=
        receive_body rfl more
      rw [List.cons_append, execAll_step settled _ moves,
        ih (List.cons_ne_nil c cs) (taken ++ [b]) (by simp only [List.length_append, List.length_singleton]; omega),
        List.append_assoc, List.singleton_append]

/-- LEN and body of a frame stand in the receiver. -/
theorem execAll_lenBody (settled : u.txChoose = u) {f : Frame} (rest : List Byte) (fits : f.payload.length ≤ 248) :
    execAll (goodBytes (f.lenBody ++ rest)) (u.setReceiver .length) =
      execAll (goodBytes rest)
        (u.setReceiver (.crc (2 + f.payload.length) (f.code :: f.tag :: f.payload) none)) := by
  have len : (byte (2 + f.payload.length)).toNat = 2 + f.payload.length := RecordMemory.byte_toNat_of_lt (by omega)
  have taken : (u.setReceiver .length).receive (byte (2 + f.payload.length)) =
      u.setReceiver (.body (2 + f.payload.length) []) := by
    rw [receive_length rfl (by omega) (by omega), len, setReceiver_setReceiver]
  have body := execAll_body settled (len := 2 + f.payload.length) (body := f.code :: f.tag :: f.payload) rest
    (List.cons_ne_nil _ _) [] (by simp only [List.length_nil, List.length_cons]; omega)
  exact (execAll_step settled _ taken).trans body

/-- Behind the body the two CRC bytes have the frame judged; the judgement does not read the receiver. -/
theorem execAll_crc (settled : u.txChoose = u) (len : Nat) (body : List Byte) (high low : Byte) :
    execAll (goodBytes [high, low]) (u.setReceiver (.crc len body none)) =
      .next (u.judgeFrame len body high low).txChoose := by
  have first : (u.setReceiver (.crc len body none)).receive high = u.setReceiver (.crc len body (some high)) :=
    receive_crc_first rfl
  have second : (u.setReceiver (.crc len body (some high))).receive low = u.judgeFrame len body high low :=
    receive_crc_second rfl
  rw [execAll_step settled _ first, execAll_goodBytes_cons, second]
  rfl

end

/-- Start byte, LEN, body and two more bytes: the frame is judged by those two. -/
theorem execAll_judged {f : Frame} {s : State} (high low : Byte) (fits : f.payload.length ≤ 248)
    (hunting : s.link.rx = .hunt) :
    execAll (goodBytes (0xA5#8 :: (f.lenBody ++ [high, low]))) s =
      .next
        (if beBytes 2 (crc16 f.lenBody).toNat = [high, low] then s.txChoose.offerFrame f
          else s.txChoose.setCondition .linkCrc).txChoose := by
  have settled : s.txChoose.txChoose = s.txChoose := s.txChoose_txChoose
  have back : s.txChoose.setReceiver .hunt = s.txChoose := setReceiver_self (by rw [State.txChoose_rx, hunting])
  rw [execAll_goodBytes_cons, receive_start hunting, State.setReceiver_txChoose, execAll_lenBody settled _ fits,
    execAll_crc settled, State.judgeFrame, back]
  rfl

/-- Settles O5: the bytes of a frame lead to the judgement of its CRC, which is right for its own CRC bytes alone. -/
theorem frameBytesReadBackAsTheFrame : Obligations.FrameBytesReadBackAsTheFrame := by
  unfold Obligations.FrameBytesReadBackAsTheFrame
  constructor
  case left =>
    intro f s fits hunting
    obtain ⟨high, low, crc⟩ : ∃ high low, beBytes 2 (crc16 f.lenBody).toNat = [high, low] := ⟨_, _, rfl⟩
    have judged := execAll_judged high low fits hunting
    rw [if_pos crc, State.offerFrame_txChoose, State.txChoose_offerFrame, ← crc] at judged
    exact judged
  case right =>
    intro f high low s fits hunting wrong
    have judged := execAll_judged high low fits hunting
    rw [if_neg (Ne.symm wrong)] at judged
    exact judged

end Sys2Proof.Machine.Receiving
end

section
/-! PROOFS. The requests of the CMC (R180 to R192): its two reports, WARM_RESTART, SET_MODE, the lot and the hold. -/

namespace Sys2Proof.Machine.CellRequests

open Sys2Proof

/-! ## Reports (R190, R191) -/

theorem txChoose_closeWaiting (s : State) : s.txChoose.closeWaiting = s.closeWaiting := by
  simp only [State.closeWaiting, State.txChoose_cmc, State.txChoose_psc, RecordMemory.txChoose_trackEmpty]

theorem exec_getCellStatus (tag : Byte) (payload : Payload) (s : State) :
    exec (.getCellStatus tag payload) s = request 0x09 tag payload s := rfl

theorem exec_readConditions (tag : Byte) (payload : Payload) (s : State) :
    exec (.readConditions tag payload) s = request 0x0F tag payload s := rfl

/-- Settles O11: both handlers report the CMC, which the transmitter's choice leaves as it is. -/
theorem cellStatusReportsTheCmc : Obligations.CellStatusReportsTheCmc := by
  unfold Obligations.CellStatusReportsTheCmc
  intro tag s free
  constructor
  · rw [exec_getCellStatus]
    refine Consumables.request_of_handler tag free (by simp) rfl ?_
    rw [handleGetCellStatus, LinkRequests.noPayload_nil]
    simp only [State.txChoose_cmc, txChoose_closeWaiting]
    rfl
  · rw [exec_readConditions]
    refine Consumables.request_of_handler tag free (by simp) rfl ?_
    rw [handleReadConditions, LinkRequests.noPayload_nil, State.txChoose_cmc]
    rfl

/-! ## WARM_RESTART (R192) -/

/-- The three tests in their order. -/
theorem handleWarmRestart_nil (s : State) :
    handleWarmRestart [] s =
      if s.cmc.mode ≠ .setup then (s, [0x04, 0x00])
      else if s.trackEmpty = false then (s, [0x09, 0x00])
      else if s.psc.queue ≠ [] then (s, [0x08, 0x00])
      else (s.setLink { s.link with restart := .replyPending }, [0x00]) := by
  simp only [handleWarmRestart, LinkRequests.noPayload_nil, Bool.not_eq_true']
  rfl

/-- Settles O17: the handler's tests, with the transmitter's choice before them. -/
theorem warmRestartIsTaken : Obligations.WarmRestartIsTaken := by
  unfold Obligations.WarmRestartIsTaken
  intro tag s free
  have handled : s.txChoose.handle ⟨0x12#8, tag, []⟩ = _ := handleWarmRestart_nil s.txChoose
  simp only [State.txChoose_cmc, RecordMemory.txChoose_trackEmpty, State.txChoose_psc] at handled
  rw [LinkRequests.exec_request_free rfl (by simp) free, handled]
  split
  case isTrue => rfl
  case isFalse =>
    split
    case isTrue => rfl
    case isFalse => split <;> rfl

/-! ## What stays through a change of the cell -/

/-- From s to t mode, lot, hold and conditions may have changed, the blocks below the CMC, the prompts and the link, but
nothing of what follows. -/
structure Steady (s t : State) : Prop where
  lotId : t.cmc.lotId = s.cmc.lotId
  trackCheck : t.cmc.trackCheck = s.cmc.trackCheck
  enables : t.cmc.enables = s.cmc.enables
  haltInput : t.cmc.haltInput = s.cmc.haltInput
  cellTime : t.cmc.cellTime = s.cmc.cellTime
  rs : t.rs = s.rs
  slots : t.pnc.slots = s.pnc.slots
  timing : t.pnc.timing = s.pnc.timing
  selection : t.pnc.selection = s.pnc.selection
  pending : t.pending = s.pending

theorem Steady.of_firm {s t : State} (h : t.firm = s.firm) : Steady s t where
  lotId := congrArg (·.1.lotId) h
  trackCheck := congrArg (·.1.trackCheck) h
  enables := congrArg (·.1.enables) h
  haltInput := congrArg (·.1.haltInput) h
  cellTime := congrArg (·.1.cellTime) h
  rs := congrArg (·.2.1) h
  slots := congrArg (·.2.2.1.slots) h
  timing := congrArg (·.2.2.1.timing) h
  selection := congrArg (·.2.2.1.selection) h
  pending := congrArg (·.2.2.2.2.2) h

/-- The transmitter's choice before an operation and the reply after it touch the link alone. -/
theorem Steady.answered {s t : State} (kept : Steady s.txChoose t) (f : Frame) : Steady s (t.answered f) where
  lotId := by rw [State.answered_cmc, kept.lotId, State.txChoose_cmc]
  trackCheck := by rw [State.answered_cmc, kept.trackCheck, State.txChoose_cmc]
  enables := by rw [State.answered_cmc, kept.enables, State.txChoose_cmc]
  haltInput := by rw [State.answered_cmc, kept.haltInput, State.txChoose_cmc]
  cellTime := by rw [State.answered_cmc, kept.cellTime, State.txChoose_cmc]
  rs := by rw [State.answered_rs, kept.rs, State.txChoose_rs]
  slots := by rw [State.answered_pnc, kept.slots, State.txChoose_pnc]
  timing := by rw [State.answered_pnc, kept.timing, State.txChoose_pnc]
  selection := by rw [State.answered_pnc, kept.selection, State.txChoose_pnc]
  pending := by rw [State.answered_pending, kept.pending, State.txChoose_pending]

/-! ## SET_MODE (R180, R183) -/

theorem exec_setMode (tag : Byte) (payload : Payload) (s : State) :
    exec (.setMode tag payload) s = request 0x08 tag payload s := rfl

/-- The tests of a change to a target pass (R180); HALT is no target. -/
def Allowed (s : State) : Mode → Prop
  | .setup => s.cmc.mode = .halt → s.cmc.haltInput = false
  | .run => s.runRefusal = none
  | .drain => s.cmc.mode = .run
  | .halt => False

theorem runRefusal_eq_none {s : State} (mode : s.cmc.mode ≠ .halt) (hold : s.cmc.hold = none)
    (lot : s.cmc.lot = .opened) (recipe : checkRecipe s.rs = none) (checked : s.cmc.trackCheck = true) :
    s.runRefusal = none := by
  simp only [State.runRefusal, if_neg mode, hold, lot, recipe, checked]
  rfl

theorem handleSetMode_setup (s : State) :
    handleSetMode [0] s =
      if s.cmc.mode = .setup then (s, [0x00])
      else if s.cmc.mode = .halt ∧ s.cmc.haltInput = true then (s, [0x04, 0x00])
      else (s.changeMode .setup 1, [0x00]) := rfl

theorem handleSetMode_run (s : State) :
    handleSetMode [1] s =
      if s.cmc.mode = .run then (s, [0x00])
      else (s.runRefusal.elim (s.changeMode .run 1) fun _ => s, s.runRefusal.getD [0x00]) := by
  refine congrArg (ite (s.cmc.mode = .run) (s, [0x00])) ?_
  cases s.runRefusal <;> rfl

theorem handleSetMode_drain (s : State) :
    handleSetMode [2] s =
      if s.cmc.mode = .drain then (s, [0x00])
      else if s.cmc.mode = .run then (s.changeMode .drain 1, [0x00])
      else (s, [0x04, 0x00]) := rfl

theorem handleSetMode_halt (s : State) : handleSetMode [3] s = (s, [0x03, 0x01]) := rfl

theorem handleSetMode_allowed {s : State} {target : Mode} (other : s.cmc.mode ≠ target) (allowed : Allowed s target) :
    handleSetMode [byte target.code] s = (s.changeMode target 1, [0x00]) := by
  cases target with
  | setup =>
    have released : ¬(s.cmc.mode = .halt ∧ s.cmc.haltInput = true) := fun ⟨halted, asserted⟩ =>
      Bool.false_ne_true ((allowed halted).symm.trans asserted)
    exact (handleSetMode_setup s).trans ((if_neg other).trans (if_neg released))
  | run =>
    have passes : s.runRefusal = none := allowed
    refine (handleSetMode_run s).trans ((if_neg other).trans ?_)
    rw [passes]
    rfl
  | drain => exact (handleSetMode_drain s).trans ((if_neg other).trans (if_pos allowed))
  | halt => exact allowed.elim

theorem handleSetMode_same (s : State) :
    handleSetMode [byte s.cmc.mode.code] s = if s.cmc.mode = .halt then (s, [0x03, 0x01]) else (s, [0x00]) := by
  cases mode : s.cmc.mode with
  | setup => exact (handleSetMode_setup s).trans (if_pos mode)
  | run => exact (handleSetMode_run s).trans (if_pos mode)
  | drain => exact (handleSetMode_drain s).trans (if_pos mode)
  | halt => exact handleSetMode_halt s

theorem handleSetMode_setup_held {s : State} (halted : s.cmc.mode = .halt) (asserted : s.cmc.haltInput = true) :
    handleSetMode [0] s = (s, [0x04, 0x00]) := by
  have other : s.cmc.mode ≠ .setup := by rw [halted]; decide
  rw [handleSetMode_setup, if_neg other, if_pos ⟨halted, asserted⟩]

theorem handleSetMode_run_refused {s : State} {r : Payload} (other : s.cmc.mode ≠ .run)
    (refused : s.runRefusal = some r) : handleSetMode [1] s = (s, r) := by
  rw [handleSetMode_run, if_neg other, refused, Option.elim_some, Option.getD_some]

theorem handleSetMode_drain_refused {s : State} (notRun : s.cmc.mode ≠ .run) (notDrain : s.cmc.mode ≠ .drain) :
    handleSetMode [2] s = (s, [0x04, 0x00]) := by
  rw [handleSetMode_drain, if_neg notDrain, if_neg notRun]

theorem txChoose_runRefusal (s : State) : s.txChoose.runRefusal = s.runRefusal := by
  simp only [State.runRefusal, State.txChoose_cmc, State.txChoose_rs]

theorem txChoose_allowed_iff (s : State) (target : Mode) : Allowed s.txChoose target ↔ Allowed s target := by
  cases target <;> simp only [Allowed, State.txChoose_cmc, txChoose_runRefusal]

theorem exec_setMode_allowed (tag : Byte) {target : Mode} {s : State} (free : s.link.Free)
    (other : s.cmc.mode ≠ target) (allowed : Allowed s target) :
    exec (.setMode tag [byte target.code]) s =
      .next ((s.txChoose.changeMode target 1).answered ⟨0x48, tag, [0x00]⟩) := by
  rw [exec_setMode]
  refine Consumables.request_of_handler tag free (by simp) rfl ?_
  exact handleSetMode_allowed (by rwa [State.txChoose_cmc]) ((txChoose_allowed_iff s target).mpr allowed)

/-- SET_MODE whose handler only answers. -/
theorem exec_setMode_unmoved (tag : Byte) {target : Byte} {reply : Payload} {s : State} (free : s.link.Free)
    (handled : handleSetMode [target] s.txChoose = (s.txChoose, reply)) :
    exec (.setMode tag [target]) s = .next (s.txChoose.answered ⟨0x48, tag, reply⟩) := by
  rw [exec_setMode]
  exact Consumables.request_of_handler tag free (by simp) rfl handled

theorem exec_setMode_run_refused (tag : Byte) {r : Payload} {s : State} (free : s.link.Free)
    (other : s.cmc.mode ≠ .run) (refused : s.runRefusal = some r) :
    exec (.setMode tag [1]) s = .next (s.txChoose.answered ⟨0x48, tag, r⟩) :=
  exec_setMode_unmoved tag free
    (handleSetMode_run_refused (by rwa [State.txChoose_cmc]) ((txChoose_runRefusal s).trans refused))

theorem exec_setMode_same (tag : Byte) {s : State} (free : s.link.Free) :
    exec (.setMode tag [byte s.cmc.mode.code]) s =
      if s.cmc.mode = .halt then .next (s.txChoose.answered ⟨0x48, tag, [0x03, 0x01]⟩)
      else .next (s.txChoose.answered ⟨0x48, tag, [0x00]⟩) := by
  have handled := handleSetMode_same s.txChoose
  rw [State.txChoose_cmc] at handled
  split
  case isTrue halted =>
    rw [if_pos halted] at handled
    exact exec_setMode_unmoved tag free handled
  case isFalse notHalted =>
    rw [if_neg notHalted] at handled
    exact exec_setMode_unmoved tag free handled

/-! ### The tests of RUN in their order -/

section
variable {s : State}

theorem runRefusal_halt (mode : s.cmc.mode = .halt) : s.runRefusal = some [0x04, 0x00] := if_pos mode

theorem runRefusal_hold (mode : s.cmc.mode ≠ .halt) (hold : s.cmc.hold.isSome = true) :
    s.runRefusal = some [0x07, 0x00] := (if_neg mode).trans (if_pos hold)

theorem runRefusal_lot (mode : s.cmc.mode ≠ .halt) (hold : s.cmc.hold = none) (lot : s.cmc.lot ≠ .opened) :
    s.runRefusal = some [0x05, 0x01] := by
  rw [State.runRefusal, if_neg mode, hold, if_pos lot]
  rfl

theorem runRefusal_recipe {f : RecipeFailure} (mode : s.cmc.mode ≠ .halt) (hold : s.cmc.hold = none)
    (lot : s.cmc.lot = .opened) (recipe : checkRecipe s.rs = some f) :
    s.runRefusal = some (0x05 :: 0x02 :: byte f.code :: beBytes 2 f.arg1 ++ [byte f.arg2]) := by
  simp only [State.runRefusal, if_neg mode, hold, lot, recipe]
  rfl

theorem runRefusal_trackCheck (mode : s.cmc.mode ≠ .halt) (hold : s.cmc.hold = none) (lot : s.cmc.lot = .opened)
    (recipe : checkRecipe s.rs = none) (unchecked : s.cmc.trackCheck = false) : s.runRefusal = some [0x05, 0x03] := by
  simp only [State.runRefusal, if_neg mode, hold, lot, recipe, unchecked]
  rfl

end

/-- Settles O12: the change of an allowed target; otherwise the first test that fails gives the reply. -/
theorem setModeMovesTheCellOrIsRefused : Obligations.SetModeMovesTheCellOrIsRefused := by
  unfold Obligations.SetModeMovesTheCellOrIsRefused
  refine ⟨?moves, fun tag s free => ⟨exec_setMode_same tag free, ?haltInput, ?halted, ?held, ?lot, ?recipe, ?unchecked,
    ?drain⟩⟩
  case moves =>
    intro tag target s free other tests
    have allowed : Allowed s target := by
      obtain ⟨rfl, released⟩ | ⟨rfl, mode, hold, lot, recipe, checked⟩ | ⟨rfl, running⟩ := tests
      · exact released
      · exact runRefusal_eq_none mode hold lot recipe checked
      · exact running
    have kept := (Steady.of_firm (s.txChoose.changeMode_firm target 1)).answered ⟨0x48, tag, [0x00]⟩
    refine ⟨_, exec_setMode_allowed tag free other allowed, State.answered_answers _ _, ?mode, ?cause, ?hold,
      kept.lotId, kept.trackCheck, kept.enables, kept.haltInput, kept.cellTime, kept.rs, kept.slots, kept.timing,
      kept.selection, kept.pending⟩
    case mode => rw [State.answered_cmc, State.changeMode_mode]
    case cause => rw [State.answered_cmc, State.changeMode_cause]
    case hold => rw [State.answered_cmc, State.changeMode_hold, State.txChoose_cmc]
  case haltInput =>
    intro halted asserted
    exact exec_setMode_unmoved tag free
      (handleSetMode_setup_held (by rwa [State.txChoose_cmc]) (by rwa [State.txChoose_cmc]))
  case halted =>
    intro halted
    exact exec_setMode_run_refused tag free (by rw [halted]; decide) (runRefusal_halt halted)
  case held =>
    intro mode notRun hold
    exact exec_setMode_run_refused tag free notRun (runRefusal_hold mode hold)
  case lot =>
    intro mode notRun hold lot
    exact exec_setMode_run_refused tag free notRun (runRefusal_lot mode hold lot)
  case recipe =>
    intro mode notRun hold lot f failed
    exact exec_setMode_run_refused tag free notRun (runRefusal_recipe mode hold lot failed)
  case unchecked =>
    intro mode notRun hold lot recipe unchecked
    exact exec_setMode_run_refused tag free notRun (runRefusal_trackCheck mode hold lot recipe unchecked)
  case drain =>
    intro notRun notDrain
    exact exec_setMode_unmoved tag free
      (handleSetMode_drain_refused (by rwa [State.txChoose_cmc]) (by rwa [State.txChoose_cmc]))

/-! ## START_LOT (R184) -/

theorem exec_startLot (tag : Byte) (payload : Payload) (s : State) :
    exec (.startLot tag payload) s = request 0x0A tag payload s := rfl

theorem exec_startLot_free (tag : Byte) {id : Nat} {s : State} (free : s.link.Free) (range : id < 2 ^ 32)
    (setup : s.cmc.mode = .setup) (noLot : s.cmc.lot = .none) :
    exec (.startLot tag (beBytes 4 id)) s = .next ((s.txChoose.openLot id).answered ⟨0x4A, tag, [0x00]⟩) := by
  have value : beNat (beBytes 4 id) = id := beNat_beBytes_of_lt 4 id (by omega)
  rw [exec_startLot]
  refine Consumables.request_of_handler tag free (by simp) rfl ?_
  simp only [handleStartLot, beBytes_length, value, State.txChoose_cmc, setup, noLot]
  rfl

/-- Of the CMC a lot's opening sets the lot and its id, and may set conditions. -/
theorem openLot_quiet (s : State) (id : Nat) :
    (s.openLot id).quiet = (s.setCmc { s.cmc with lot := .opened, lotId := id }).quiet := by
  simp [State.openLot]

theorem testFeed_inMag (s : State) : s.testFeed.trc.inMag = s.trc.inMag := rfl

theorem testFeed_outMag (s : State) : s.testFeed.trc.outMag = s.trc.outMag := rfl

theorem openLot_inMag (s : State) (id : Nat) : (s.openLot id).trc.inMag = s.trc.renumber.inMag := by
  simp [State.openLot, testFeed_inMag]

theorem openLot_outMag (s : State) (id : Nat) : (s.openLot id).trc.outMag = s.trc.renumber.outMag := by
  simp [State.openLot, testFeed_outMag]

/-! ## END_LOT (R185) -/

theorem exec_endLot (tag : Byte) (payload : Payload) (s : State) :
    exec (.endLot tag payload) s = request 0x0B tag payload s := rfl

theorem exec_endLot_free (tag : Byte) {s : State} (free : s.link.Free) (opened : s.cmc.lot = .opened) :
    exec (.endLot tag []) s = .next (s.txChoose.closeLot.answered ⟨0x4B, tag, [0x00]⟩) := by
  rw [exec_endLot]
  refine Consumables.request_of_handler tag free (by simp) rfl ?_
  rw [handleEndLot, LinkRequests.noPayload_nil, State.txChoose_cmc, opened]
  rfl

/-- The four tests of the lot close (R185). -/
def Closes (s : State) : Prop :=
  s.cmc.lot = .closing ∧ s.cmc.mode = .setup ∧ s.trackEmpty = true ∧ s.psc.queue = []

theorem lotCloseTest_of_not {s : State} (stays : ¬Closes s) : s.lotCloseTest = s := if_neg stays

theorem lotCloseTest_quiet_of_closes {s : State} (closes : Closes s) :
    s.lotCloseTest.quiet = (s.setCmc { s.cmc with lot := .none }).quiet := by
  unfold Closes at closes
  simp [State.lotCloseTest, closes]

/-- The lot made CLOSING, before the change of mode and the lot close test. -/
def closing (s : State) : State := (s.setCmc { s.cmc with lot := .closing }).testFeed

theorem closing_cmc (s : State) : (closing s).cmc = { s.cmc with lot := .closing } := rfl

theorem closing_setCmc_quiet (s : State) (x : Cmc) : ((closing s).setCmc x).quiet = (s.setCmc x).quiet := rfl

theorem closing_closes_iff (s : State) :
    Closes (closing s) ↔ s.cmc.mode = .setup ∧ s.trackEmpty = true ∧ s.psc.queue = [] := by
  have lot : (closing s).cmc.lot = .closing := rfl
  exact and_iff_right lot

theorem closeLot_of_run {s : State} (running : s.cmc.mode = .run) :
    s.closeLot = ((closing s).changeMode .drain 3).lotCloseTest := by
  simp only [State.closeLot, if_pos running]
  rfl

theorem closeLot_of_not_run {s : State} (stopped : s.cmc.mode ≠ .run) : s.closeLot = (closing s).lotCloseTest := by
  simp only [State.closeLot, if_neg stopped]
  rfl

/-- A change to DRAIN leaves the lot as it is: the lot close test belongs to SETUP. -/
theorem changeMode_drain_quiet (s : State) (cause : Nat) :
    (s.changeMode .drain cause).quiet = (s.setCmc { s.cmc with mode := .drain, cause := cause }).quiet := by
  obtain ⟨t, quiet, changed⟩ := s.changeMode_spec .drain cause
  rw [changed, if_neg (by decide)]
  exact quiet

/-- Of the CMC the close of an open lot sets the lot and, in RUN, mode and cause, and may set conditions. -/
theorem closeLot_quiet (s : State) :
    ∃ cause, s.closeLot.quiet =
      (s.setCmc
        { s.cmc with
          mode := if s.cmc.mode = .run then .drain else s.cmc.mode
          cause := cause
          lot :=
            if s.cmc.mode = .setup ∧ s.trackEmpty = true ∧ s.psc.queue = [] then .none else .closing }).quiet := by
  by_cases running : s.cmc.mode = .run
  · have drained : ((closing s).changeMode .drain 3).cmc.mode = .drain := State.changeMode_mode ..
    have waits : ¬Closes ((closing s).changeMode .drain 3) := fun ⟨_, setup, _⟩ => by simp [drained] at setup
    have notSetup : ¬(s.cmc.mode = .setup ∧ s.trackEmpty = true ∧ s.psc.queue = []) := fun ⟨setup, _⟩ => by
      simp [running] at setup
    refine ⟨3, ?_⟩
    rw [closeLot_of_run running, lotCloseTest_of_not waits, changeMode_drain_quiet, closing_setCmc_quiet,
      if_pos running, if_neg notSetup]
    rfl
  · refine ⟨s.cmc.cause, ?_⟩
    rw [closeLot_of_not_run running, if_neg running]
    by_cases closes : Closes (closing s)
    · rw [lotCloseTest_quiet_of_closes closes, closing_setCmc_quiet, if_pos ((closing_closes_iff s).mp closes)]
      rfl
    · rw [lotCloseTest_of_not closes, if_neg (mt (closing_closes_iff s).mpr closes)]
      rfl

/-- Settles O13: the lot's opening block by block, and the close by the one equation for its quiet view. -/
theorem lotsAreOpenedAndClosed : Obligations.LotsAreOpenedAndClosed := by
  unfold Obligations.LotsAreOpenedAndClosed
  refine ⟨?start, ?ending⟩
  case start =>
    intro tag id s free range setup noLot
    have quiet := openLot_quiet s.txChoose id
    have lotId : (s.txChoose.openLot id).cmc.lotId = id := congrArg (·.1.lotId) quiet
    have trackCheck : (s.txChoose.openLot id).cmc.trackCheck = s.txChoose.cmc.trackCheck :=
      congrArg (·.1.trackCheck) quiet
    refine ⟨_, exec_startLot_free tag free range setup noLot, State.answered_answers _ _, ?_⟩
    simp only [State.answered_cmc, State.answered_stu, State.answered_psc, State.answered_trc, State.answered_heads,
      State.answered_dlc, State.answered_rs, State.answered_pnc, State.answered_pending, State.quiet_lot quiet, lotId,
      trackCheck, State.quiet_mode quiet, State.quiet_hold quiet, openLot_inMag, openLot_outMag]
    simp [State.openLot, Trc.renumber, setup]
  case ending =>
    intro tag s free opened
    obtain ⟨cause, quiet⟩ := closeLot_quiet s.txChoose
    have firm : s.txChoose.closeLot.firm = s.txChoose.firm := (State.firm_of_quiet quiet).trans rfl
    have kept := (Steady.of_firm firm).answered ⟨0x4B, tag, [0x00]⟩
    refine ⟨_, exec_endLot_free tag free opened, State.answered_answers _ _, ?lot, ?mode, ?hold, kept.lotId, kept.rs,
      kept.slots, kept.pending⟩
    case lot =>
      rw [State.answered_cmc, State.quiet_lot quiet]
      simp only [State.setCmc_cmc, State.txChoose_cmc, State.txChoose_psc, RecordMemory.txChoose_trackEmpty]
    case mode =>
      rw [State.answered_cmc, State.quiet_mode quiet]
      simp only [State.setCmc_cmc, State.txChoose_cmc]
    case hold =>
      rw [State.answered_cmc, State.quiet_hold quiet]
      simp only [State.setCmc_cmc, State.txChoose_cmc]

/-! ## SET_HOLD and CLEAR_HOLD (R186, R187) -/

theorem exec_setHold (tag : Byte) (payload : Payload) (s : State) :
    exec (.setHold tag payload) s = request 0x0C tag payload s := rfl

theorem exec_clearHold (tag : Byte) (payload : Payload) (s : State) :
    exec (.clearHold tag payload) s = request 0x0D tag payload s := rfl

theorem exec_setHold_free (tag : Byte) {s : State} (free : s.link.Free) :
    exec (.setHold tag []) s = .next ((s.txChoose.setQualityHold .host).answered ⟨0x4C, tag, [0x00]⟩) := by
  rw [exec_setHold]
  exact Consumables.request_of_handler tag free (by simp) rfl (LinkRequests.noPayload_nil _ _)

theorem exec_clearHold_free (tag : Byte) {s : State} (free : s.link.Free) :
    exec (.clearHold tag []) s = .next ((s.txChoose.clearQualityHold 1).answered ⟨0x4D, tag, [0x00]⟩) := by
  rw [exec_clearHold]
  exact Consumables.request_of_handler tag free (by simp) rfl (LinkRequests.noPayload_nil _ _)

theorem setQualityHold_of_set {s : State} {c : HoldCause} (cause : HoldCause) (set : s.cmc.hold = some c) :
    s.setQualityHold cause = s := by
  rw [State.setQualityHold, set]

/-- The hold set and the mode left, before prompt, notice, condition, event and gate tests. -/
def heldState (s : State) (cause : HoldCause) : State :=
  if s.cmc.mode = .run then (s.setCmc { s.cmc with hold := some cause }).changeMode .drain 2
  else s.setCmc { s.cmc with hold := some cause }

theorem setQualityHold_quiet_of_clear {s : State} (cause : HoldCause) (clear : s.cmc.hold = none) :
    (s.setQualityHold cause).quiet = (heldState s cause).quiet := by
  simp only [State.setQualityHold, clear, State.testBothHeads_quiet, State.writeEvent_quiet, State.setCondition_quiet,
    State.handNotice_quiet, State.raisePrompt_quiet]
  rfl

theorem heldState_mode (s : State) (cause : HoldCause) :
    (heldState s cause).cmc.mode = if s.cmc.mode = .run then .drain else s.cmc.mode := by
  unfold heldState
  split
  · exact State.changeMode_mode ..
  · rfl

theorem setQualityHold_mode (s : State) (cause : HoldCause) :
    (s.setQualityHold cause).cmc.mode = if s.cmc.hold = none ∧ s.cmc.mode = .run then .drain else s.cmc.mode := by
  cases hold : s.cmc.hold with
  | none =>
    rw [State.quiet_mode (setQualityHold_quiet_of_clear cause hold), heldState_mode]
    simp
  | some c =>
    rw [setQualityHold_of_set cause hold]
    simp

theorem clearQualityHold_stu (s : State) (cause : Nat) : (s.clearQualityHold cause).stu = s.stu := by
  unfold State.clearQualityHold
  split <;> simp

theorem clearQualityHold_trc (s : State) (cause : Nat) : (s.clearQualityHold cause).trc = s.trc := by
  unfold State.clearQualityHold
  split <;> simp

theorem clearQualityHold_dlc (s : State) (cause : Nat) : (s.clearQualityHold cause).dlc = s.dlc := by
  unfold State.clearQualityHold
  split <;> simp

theorem clearQualityHold_psc (s : State) (cause : Nat) : (s.clearQualityHold cause).psc = s.psc := by
  unfold State.clearQualityHold
  split <;> simp

/-- Settles O14: a setting by its hold and mode, a clearing by its quiet view and the blocks it leaves. -/
theorem holdIsSetAndCleared : Obligations.HoldIsSetAndCleared := by
  unfold Obligations.HoldIsSetAndCleared
  intro tag s free
  refine ⟨?set, ?clear⟩
  case set =>
    have kept := (Steady.of_firm (s.txChoose.setQualityHold_eases .host).firm).answered ⟨0x4C, tag, [0x00]⟩
    refine ⟨_, exec_setHold_free tag free, State.answered_answers _ _, ?hold, ?mode, kept.lotId, kept.rs, kept.slots,
      kept.pending⟩
    case hold => rw [State.answered_cmc, State.setQualityHold_hold, State.txChoose_cmc]
    case mode => rw [State.answered_cmc, setQualityHold_mode, State.txChoose_cmc]
  case clear =>
    have quiet := s.txChoose.clearQualityHold_spec 1
    have firm := (State.firm_of_quiet quiet).trans (State.setHold_firm _ _)
    have kept := (Steady.of_firm firm).answered ⟨0x4D, tag, [0x00]⟩
    refine ⟨_, exec_clearHold_free tag free, State.answered_answers _ _, ?hold, ?mode, ?lot, kept.lotId, kept.rs,
      ?stu, ?trc, ?dlc, ?psc, kept.slots, kept.pending⟩
    case hold => rw [State.answered_cmc, State.quiet_hold quiet, State.setCmc_cmc]
    case mode => rw [State.answered_cmc, State.quiet_mode quiet, State.setCmc_cmc, State.txChoose_cmc]
    case lot => rw [State.answered_cmc, State.quiet_lot quiet, State.setCmc_cmc, State.txChoose_cmc]
    case stu => rw [State.answered_stu, clearQualityHold_stu, State.txChoose_stu]
    case trc => rw [State.answered_trc, clearQualityHold_trc, State.txChoose_trc]
    case dlc => rw [State.answered_dlc, clearQualityHold_dlc, State.txChoose_dlc]
    case psc => rw [State.answered_psc, clearQualityHold_psc, State.txChoose_psc]

end Sys2Proof.Machine.CellRequests
end

section
/-! PROOFS. The link's queues (R192, R196, R197, R199, R203): no request touches the frame being sent, and who is served
when a frame has been sent. -/

namespace Sys2Proof.Machine.LinkQueues

open Sys2Proof

/-! ## No request touches the frame being sent: its only writers are the transmitter's choice and the end of a frame -/

theorem tx_of_firm {s t : State} (h : t.firm = s.firm) : t.link.tx = s.link.tx := congrArg (·.2.2.2.1.tx) h

theorem tx_of_quiet {s t : State} (h : t.quiet = s.quiet) : t.link.tx = s.link.tx := State.quiet_tx h

/-- The handler leaves the frame being sent as it is. -/
def KeepsSending (handler : Payload → State → State × Payload) : Prop :=
  ∀ p s, (handler p s).1.link.tx = s.link.tx

section
variable {p : Payload} {s : State}

theorem noPayload_tx {f : State → State × Payload} (h : (f s).1.link.tx = s.link.tx) :
    (noPayload p s f).1.link.tx = s.link.tx := by
  unfold noPayload
  split
  · exact h
  · rfl

theorem withMask_tx {f : State → BitVec 22 → State × Payload} (h : ∀ m, (f s m).1.link.tx = s.link.tx) :
    (withMask p s f).1.link.tx = s.link.tx := by
  unfold withMask
  repeat' split
  case isFalse.isFalse => exact h _
  all_goals rfl

theorem withHead_tx {f : State → HeadId → State × Payload} (h : ∀ x, (f s x).1.link.tx = s.link.tx) :
    (withHead p s f).1.link.tx = s.link.tx := by
  unfold withHead
  repeat' split
  case h_2 => exact h _
  all_goals rfl

theorem load_tx {c : ItemClass} {fs : List FieldSpec} {cross : List Int → List (Nat × Bool)}
    {write : State → List Int → State × Payload} (h : ∀ v, (write s v).1.link.tx = s.link.tx) :
    (s.load c fs p cross write).1.link.tx = s.link.tx := by
  unfold State.load
  repeat' split
  case h_2 => exact h _
  all_goals rfl

theorem withSlot_tx {f : Nat → State × Payload} (h : ∀ n, (f n).1.link.tx = s.link.tx) :
    (withSlot p s f).1.link.tx = s.link.tx := by
  unfold withSlot
  split
  · rfl
  · exact h _

theorem withBuild_tx {slot : Nat} {f : Template → State × Payload} (h : ∀ t, (f t).1.link.tx = s.link.tx) :
    (withBuild s slot f).1.link.tx = s.link.tx := by
  unfold withBuild
  repeat' split
  case h_2.isTrue => exact h _
  all_goals rfl

end

/-! ### The SLI and the CMC -/

theorem handleIdentify_tx : KeepsSending handleIdentify := fun _ _ => noPayload_tx rfl

theorem handleLinkEcho_tx : KeepsSending handleLinkEcho := by
  intro p s
  unfold handleLinkEcho
  split <;> rfl

theorem handleSetMode_tx : KeepsSending handleSetMode := by
  intro p s
  have moved (target : Mode) : (taken (s.changeMode target 1)).1.link.tx = s.link.tx :=
    tx_of_firm (s.changeMode_firm target 1)
  simp only [handleSetMode]
  split
  · rfl
  split
  case h_1 =>
    repeat' split
    case isFalse.isFalse => exact moved .setup
    all_goals rfl
  case h_2 =>
    repeat' split
    case h_2 => exact moved .run
    all_goals rfl
  case h_3 =>
    repeat' split
    case isFalse.isTrue => exact moved .drain
    all_goals rfl
  case h_4 => rfl

theorem handleGetCellStatus_tx : KeepsSending handleGetCellStatus := fun _ _ => noPayload_tx rfl

theorem handleStartLot_tx : KeepsSending handleStartLot := by
  intro p s
  unfold handleStartLot
  repeat' split
  case isFalse.isFalse.isFalse => exact (tx_of_quiet (CellRequests.openLot_quiet s _)).trans rfl
  all_goals rfl

theorem closeLot_tx (s : State) : s.closeLot.link.tx = s.link.tx := by
  obtain ⟨cause, quiet⟩ := CellRequests.closeLot_quiet s
  exact (tx_of_quiet quiet).trans rfl

theorem handleEndLot_tx : KeepsSending handleEndLot := by
  refine fun p s => noPayload_tx ?_
  cases s.cmc.lot with
  | none | closing => rfl
  | opened => exact closeLot_tx s

theorem handleSetHold_tx : KeepsSending handleSetHold :=
  fun _ s => noPayload_tx (tx_of_firm (s.setQualityHold_eases .host).firm)

theorem handleClearHold_tx : KeepsSending handleClearHold :=
  fun _ s => noPayload_tx ((tx_of_quiet (s.clearQualityHold_spec 1)).trans rfl)

theorem handleHalt_tx : KeepsSending handleHalt := by
  refine fun p s => noPayload_tx ?_
  dsimp only [taken]
  split
  · rfl
  · exact (tx_of_firm (s.enterHalt_eases 7).firm).trans rfl

theorem handleReadConditions_tx : KeepsSending handleReadConditions := fun _ _ => noPayload_tx rfl

theorem handleClearConditions_tx : KeepsSending handleClearConditions := fun _ _ => withMask_tx fun _ => rfl

theorem handleSetAlertEnables_tx : KeepsSending handleSetAlertEnables :=
  fun _ _ => withMask_tx fun _ => (tx_of_quiet (State.noticeConditions_quiet _ _)).trans rfl

theorem handleWarmRestart_tx : KeepsSending handleWarmRestart := by
  refine fun p s => noPayload_tx ?_
  repeat' split
  all_goals rfl

/-! ### The Recipe Store -/

theorem handleLoadLayout_tx : KeepsSending handleLoadLayout := fun _ _ => load_tx fun _ => rfl

theorem handleLoadWires_tx : KeepsSending handleLoadWires := by
  intro p s
  simp only [handleLoadWires]
  repeat' split
  all_goals rfl

theorem handleLoadBondSet_tx : KeepsSending handleLoadBondSet := fun _ _ => load_tx fun _ => rfl

theorem handleLoadLoop_tx : KeepsSending handleLoadLoop := fun _ _ => load_tx fun _ => rfl

theorem handleLoadPlan_tx : KeepsSending handleLoadPlan := by
  intro p s
  simp only [handleLoadPlan]
  repeat' split
  all_goals rfl

theorem handleLoadHeadConfig_tx : KeepsSending handleLoadHeadConfig := by
  refine fun p s => load_tx fun v => ?_
  dsimp only
  split
  · rfl
  · exact (tx_of_quiet (State.headConfigTaken_quiet _ _ _)).trans rfl

theorem handleLoadTrackConfig_tx : KeepsSending handleLoadTrackConfig :=
  fun _ _ => load_tx fun _ => (tx_of_quiet (State.trackConfigTaken_quiet _)).trans rfl

theorem handleReadRecipeItem_tx : KeepsSending handleReadRecipeItem := by
  intro p s
  simp only [handleReadRecipeItem]
  repeat' split
  all_goals rfl

theorem handleCheckRecipe_tx : KeepsSending handleCheckRecipe := by
  intro p s
  unfold handleCheckRecipe
  split <;> rfl

/-! ### Heads, track, Drive Line and pull station -/

theorem handleHeadStatus_tx : KeepsSending handleHeadStatus := fun _ _ => withHead_tx fun _ => rfl

theorem handleResumeHead_tx : KeepsSending handleResumeHead := by
  refine fun p s => withHead_tx fun h => ?_
  split
  case h_2 why _ _ => exact tx_of_quiet (s.resume_quiet h why)
  all_goals rfl

theorem handleSetCapillaryCount_tx : KeepsSending handleSetCapillaryCount := by
  intro p s
  simp only [handleSetCapillaryCount]
  repeat' split
  case h_2.isFalse.isFalse h _ _ _ => exact tx_of_quiet (s.setCapillary_quiet h _)
  all_goals rfl

theorem handleLoadSpool_tx : KeepsSending handleLoadSpool := by
  refine fun p s => withHead_tx fun h => ?_
  split
  · rfl
  · exact tx_of_quiet (s.fillSpool_quiet h)

theorem handleStripMap_tx : KeepsSending handleStripMap := by
  intro p s
  simp only [handleStripMap]
  repeat' split
  all_goals rfl

theorem handleTrackStatus_tx : KeepsSending handleTrackStatus := fun _ _ => noPayload_tx rfl

theorem handleMagazineStatus_tx : KeepsSending handleMagazineStatus := by
  intro p s
  simp only [handleMagazineStatus]
  repeat' split
  all_goals rfl

theorem handleDriveStatus_tx : KeepsSending handleDriveStatus := fun _ _ => noPayload_tx rfl

theorem handleClassify_tx : KeepsSending handleClassify := by
  intro p s
  simp only [handleClassify]
  split
  · rfl
  split
  · rfl
  split
  case h_1 => rfl
  case h_2 x _ => exact tx_of_firm (s.classifyPull_eases x _ _).firm

theorem handleLotStats_tx : KeepsSending handleLotStats := fun _ _ => noPayload_tx rfl

theorem handlePullQueueStatus_tx : KeepsSending handlePullQueueStatus := by
  intro p s
  simp only [handlePullQueueStatus]
  repeat' split
  all_goals rfl

/-! ### The Record Memory -/

theorem handleSetRegions_tx : KeepsSending handleSetRegions := by
  intro p s
  simp only [handleSetRegions]
  repeat' split
  all_goals rfl

theorem handleRegionStatus_tx : KeepsSending handleRegionStatus := by
  intro p s
  simp only [handleRegionStatus]
  repeat' split
  all_goals rfl

theorem handleReadRecords_tx : KeepsSending handleReadRecords := by
  intro p s
  simp only [handleReadRecords]
  repeat' split
  all_goals rfl

theorem handleReleaseRecords_tx : KeepsSending handleReleaseRecords := by
  intro p s
  simp only [handleReleaseRecords]
  repeat' split
  case h_2 i _ => exact tx_of_quiet (s.release_quiet i _)
  all_goals rfl

/-! ### The panel -/

theorem handleSetPanelTiming_tx : KeepsSending handleSetPanelTiming := by
  intro p s
  simp only [handleSetPanelTiming]
  repeat' split
  all_goals rfl

theorem handleScreenBegin_tx : KeepsSending handleScreenBegin := by
  intro p s
  unfold handleScreenBegin
  split
  · rfl
  · refine withSlot_tx fun n => ?_
    dsimp only
    split <;> rfl

theorem handleScreenText_tx : KeepsSending handleScreenText := by
  intro p s
  simp only [handleScreenText]
  split
  · rfl
  · refine withSlot_tx fun n => withBuild_tx fun t => ?_
    repeat' split
    all_goals rfl

theorem handleScreenFields_tx : KeepsSending handleScreenFields := by
  intro p s
  simp only [handleScreenFields]
  split
  · rfl
  · refine withSlot_tx fun n => withBuild_tx fun t => ?_
    repeat' split
    all_goals rfl

theorem handleScreenCommit_tx : KeepsSending handleScreenCommit := by
  intro p s
  unfold handleScreenCommit
  split
  · rfl
  · exact withSlot_tx fun n => withBuild_tx fun t => rfl

theorem handleLoadScreen_tx : KeepsSending handleLoadScreen := by
  intro p s
  unfold handleLoadScreen
  split
  case h_1 => rfl
  case h_2 part rest =>
    split
    case h_1 => exact handleScreenBegin_tx rest s
    case h_2 => exact handleScreenText_tx rest s
    case h_3 => exact handleScreenFields_tx rest s
    case h_4 => exact handleScreenCommit_tx rest s
    case h_5 => split <;> rfl

theorem handleShowScreen_tx : KeepsSending handleShowScreen := by
  intro p s
  simp only [handleShowScreen]
  repeat' split
  all_goals rfl

theorem handleShowPattern_tx : KeepsSending handleShowPattern := by
  intro p s
  simp only [handleShowPattern]
  repeat' split
  all_goals rfl

theorem handleRaisePrompt_tx : KeepsSending handleRaisePrompt := by
  intro p s
  simp only [handleRaisePrompt]
  repeat' split
  case h_2 => exact tx_of_quiet (s.raiseNote_quiet ..)
  all_goals rfl

theorem handleWithdrawPrompt_tx : KeepsSending handleWithdrawPrompt := by
  intro p s
  simp only [handleWithdrawPrompt]
  repeat' split
  case isFalse.isFalse.isTrue => exact tx_of_quiet (s.removePrompt_quiet ..)
  all_goals rfl

theorem handlePromptStatus_tx : KeepsSending handlePromptStatus := fun _ _ => noPayload_tx rfl

theorem handleSetTone_tx : KeepsSending handleSetTone := by
  intro p s
  simp only [handleSetTone]
  repeat' split
  all_goals rfl

/-! ### Every request, by the code table (R200) -/

theorem handlerOf_tx {code : Nat} {handler : Payload → State → State × Payload}
    (owner : handlerOf code = some handler) : KeepsSending handler := by
  unfold handlerOf at owner
  split at owner <;> cases owner
  · exact handleIdentify_tx
  · exact handleLinkEcho_tx
  · exact handleSetMode_tx
  · exact handleGetCellStatus_tx
  · exact handleStartLot_tx
  · exact handleEndLot_tx
  · exact handleSetHold_tx
  · exact handleClearHold_tx
  · exact handleHalt_tx
  · exact handleReadConditions_tx
  · exact handleClearConditions_tx
  · exact handleSetAlertEnables_tx
  · exact handleWarmRestart_tx
  · exact handleLoadLayout_tx
  · exact handleLoadWires_tx
  · exact handleLoadBondSet_tx
  · exact handleLoadLoop_tx
  · exact handleLoadPlan_tx
  · exact handleLoadHeadConfig_tx
  · exact handleLoadTrackConfig_tx
  · exact handleReadRecipeItem_tx
  · exact handleCheckRecipe_tx
  · exact handleHeadStatus_tx
  · exact handleResumeHead_tx
  · exact handleSetCapillaryCount_tx
  · exact handleLoadSpool_tx
  · exact handleStripMap_tx
  · exact handleTrackStatus_tx
  · exact handleMagazineStatus_tx
  · exact handleDriveStatus_tx
  · exact handleClassify_tx
  · exact handleLotStats_tx
  · exact handlePullQueueStatus_tx
  · exact handleSetRegions_tx
  · exact handleRegionStatus_tx
  · exact handleReadRecords_tx
  · exact handleReleaseRecords_tx
  · exact handleSetPanelTiming_tx
  · exact handleLoadScreen_tx
  · exact handleShowScreen_tx
  · exact handleShowPattern_tx
  · exact handleRaisePrompt_tx
  · exact handleWithdrawPrompt_tx
  · exact handlePromptStatus_tx
  · exact handleSetTone_tx

theorem handle_tx (s : State) (f : Frame) : (s.handle f).1.link.tx = s.link.tx := by
  unfold State.handle
  split
  case h_1 handler owner => exact handlerOf_tx owner f.payload s
  case h_2 => rfl

/-- A frame dispatched: its reply stands in the slot, and the frame being sent goes on. -/
theorem dispatch_link (s : State) (f : Frame) :
    (s.dispatch f).link.tx = s.link.tx ∧ (s.dispatch f).link.reply.isSome = true :=
  ⟨handle_tx s f, rfl⟩

/-! ## The transmitter's choice, case by case (R199) -/

/-- The transmitter IDLE, its frame sent. -/
def sent (s : State) : State := s.setLink { s.link with tx := none }

/-- The transmitter sends the reply, and the slot is empty. -/
def replying (s : State) (r : Frame) : State := s.setLink { s.link with tx := some (.reply r), reply := none }

/-- The transmitter sends a notice, and these wait behind it. -/
def noticing (s : State) (n : Notice) (ns : List Notice) : State :=
  s.setLink { s.link with tx := some (.notice n), notices := ns }

section
variable {s : State}

theorem txChoose_of_reply {r : Frame} (idle : s.link.tx = none) (notDue : s.link.restart ≠ .due)
    (reply : s.link.reply = some r) :
    s.txChoose = replying s r := by
  simp [State.txChoose, replying, idle, notDue, reply]

theorem txChoose_of_notice {n : Notice} {ns : List Notice} (idle : s.link.tx = none) (notDue : s.link.restart ≠ .due)
    (empty : s.link.reply = none) (notices : s.link.notices = n :: ns) :
    s.txChoose = noticing s n ns := by
  simp [State.txChoose, noticing, idle, notDue, empty, notices]

theorem txChoose_of_due (due : s.link.restart = .due) : s.txChoose = s := by
  simp [State.txChoose, due]

/-! ## When the dispatcher takes nothing (R197) -/

theorem dispatchOne_of_reply (waits : s.link.reply.isSome = true) : s.dispatchOne = s := by
  obtain ⟨r, reply⟩ := Option.isSome_iff_exists.mp waits
  simp [State.dispatchOne, reply]

theorem dispatchOne_of_empty (empty : s.link.rxQueue = []) : s.dispatchOne = s := by
  simp [State.dispatchOne, empty]

theorem dispatchOne_of_restart (taken : s.link.restart ≠ .no) : s.dispatchOne = s := by
  unfold State.dispatchOne
  split
  case h_1 no => exact absurd no taken
  case h_2 => rfl

theorem dispatchOne_of_cons {f : Frame} {fs : List Frame} (queue : s.link.rxQueue = f :: fs)
    (empty : s.link.reply = none) (no : s.link.restart = .no) :
    s.dispatchOne = (s.setLink { s.link with rxQueue := fs }).dispatch f := by
  simp [State.dispatchOne, queue, empty, no]

end

/-- When the dispatcher takes nothing, the turns are the transmitter's choice alone. -/
theorem settle_of_nothing {s : State} (nothing : s.txChoose.dispatchOne = s.txChoose) (n : Nat) :
    s.settle n = s.txChoose := by
  induction n with
  | zero => rfl
  | succ n ih => rw [State.settle, nothing, State.txChoose_settle, ih]

/-- With a frame being sent and a reply behind it the link stands still. -/
theorem settle_of_busy {s : State} (sending : s.link.tx.isSome = true) (waits : s.link.reply.isSome = true) (n : Nat) :
    s.settle n = s := by
  have chosen := s.txChoose_sending sending
  rw [settle_of_nothing (by rw [chosen]; exact dispatchOne_of_reply waits), chosen]

/-! ## A request behind a busy link (R196) -/

theorem offerFrame_of_busy {s : State} (f : Frame) (sending : s.link.tx.isSome = true)
    (waits : s.link.reply.isSome = true) : s.offerFrame f = s.enqueueFrame f := by
  have before : s.settleLink = s := settle_of_busy sending waits _
  have quiet : (s.setCondition .linkOverrun).quiet = s.quiet := State.setCondition_quiet ..
  rw [State.offerFrame, before]
  unfold State.enqueueFrame
  split
  · exact settle_of_busy (s := s.setLink { s.link with rxQueue := s.link.rxQueue ++ [f] }) sending waits _
  · exact settle_of_busy (by rwa [State.quiet_tx quiet]) (by rwa [State.quiet_reply quiet]) _

theorem exec_request_busy {c : Instr} {f : Frame} {s : State} (frame : c.frame = some f)
    (fits : f.payload.length ≤ 248) (sending : s.link.tx.isSome = true) (waits : s.link.reply.isSome = true) :
    exec c s = .next (s.enqueueFrame f) := by
  rw [exec_request c f s frame, if_pos fits, offerFrame_of_busy f sending waits]

/-! ## A frame has been sent (R199, R203) -/

theorem exec_frameSent (s : State) : exec .frameSent s = .next s.frameSent.txChoose := rfl

section
variable {s : State}

/-- Without a warm restart transmitter and dispatcher go on, and leave nothing to choose. -/
theorem exec_frameSent_settles (sending : s.link.tx.isSome = true)
    (goesOn : ¬(s.link.restart = .replyPending ∧ s.link.reply = none)) :
    exec .frameSent s = .next (sent s).settleLink := by
  have settled : (sent s).settleLink.txChoose = (sent s).settleLink := State.settle_txChoose _ _
  obtain ⟨frame, tx⟩ := Option.isSome_iff_exists.mp sending
  have ended : s.frameSent = (sent s).settleLink := by
    simp only [State.frameSent, s.txChoose_sending sending, tx, if_neg goesOn]
    rfl
  rw [exec_frameSent, ended, settled]

/-- A reply in the slot is taken; the dispatcher takes nothing when no frame waits, or a restart does. -/
theorem exec_frameSent_reply {r : Frame} (sending : s.link.tx.isSome = true) (notDue : s.link.restart ≠ .due)
    (reply : s.link.reply = some r) (nothing : s.link.rxQueue = [] ∨ s.link.restart ≠ .no) :
    exec .frameSent s = .next { s with link := { s.link with tx := some (.reply r), reply := none } } := by
  have chosen : (sent s).txChoose = replying (sent s) r := txChoose_of_reply rfl notDue reply
  have still : (replying (sent s) r).dispatchOne = replying (sent s) r := by
    obtain queue | taken := nothing
    · exact dispatchOne_of_empty (s := replying (sent s) r) queue
    · exact dispatchOne_of_restart (s := replying (sent s) r) taken
  rw [exec_frameSent_settles sending (by simp [reply]), State.settleLink,
    settle_of_nothing (by rw [chosen, still]), chosen]
  rfl

theorem exec_frameSent_noReply (sending : s.link.tx.isSome = true) (queue : s.link.rxQueue = [])
    (no : s.link.restart = .no) : exec .frameSent s = .next (sent s).txChoose := by
  rw [exec_frameSent_settles sending (by simp [no]), State.settleLink_empty (sent s) queue]

theorem exec_frameSent_notice {n : Notice} {ns : List Notice} (sending : s.link.tx.isSome = true)
    (queue : s.link.rxQueue = []) (no : s.link.restart = .no) (empty : s.link.reply = none)
    (notices : s.link.notices = n :: ns) :
    exec .frameSent s = .next { s with link := { s.link with tx := some (.notice n), notices := ns } } := by
  have notDue : (sent s).link.restart ≠ .due := by rw [sent, State.setLink_link, no]; decide
  have chosen : (sent s).txChoose = noticing (sent s) n ns := txChoose_of_notice rfl notDue empty notices
  rw [exec_frameSent_noReply sending queue no, chosen]
  rfl

theorem exec_frameSent_nothing (sending : s.link.tx.isSome = true) (queue : s.link.rxQueue = [])
    (no : s.link.restart = .no) (empty : s.link.reply = none) (notices : s.link.notices = []) :
    exec .frameSent s = .next { s with link := { s.link with tx := none } } := by
  rw [exec_frameSent_noReply sending queue no, State.txChoose_nothing (sent s) empty notices]
  rfl

/-- The reply taken empties the slot for the oldest frame's; with that reply in it the link stands still. -/
theorem exec_frameSent_dispatches {f r : Frame} {fs : List Frame} (sending : s.link.tx.isSome = true)
    (queue : s.link.rxQueue = f :: fs) (reply : s.link.reply = some r) (no : s.link.restart = .no) :
    exec .frameSent s =
      .next
        (State.dispatch { s with link := { s.link with tx := some (.reply r), reply := none, rxQueue := fs } } f) := by
  have notDue : (sent s).link.restart ≠ .due := by rw [sent, State.setLink_link, no]; decide
  have chosen : (sent s).txChoose = replying (sent s) r := txChoose_of_reply rfl notDue reply
  have taken : (sent s).txChoose.dispatchOne =
      State.dispatch { s with link := { s.link with tx := some (.reply r), reply := none, rxQueue := fs } } f := by
    rw [chosen]
    exact dispatchOne_of_cons (s := replying (sent s) r) queue rfl no
  have waiting : (sent s).link.rxQueue.length = fs.length + 1 := congrArg List.length queue
  obtain ⟨tx, slot⟩ :=
    dispatch_link { s with link := { s.link with tx := some (.reply r), reply := none, rxQueue := fs } } f
  rw [exec_frameSent_settles sending (by simp [no]), State.settleLink, waiting, State.settle, taken,
    settle_of_busy (by rw [tx]; rfl) slot]

/-- Behind a reset the IDLE transmitter takes its notice at once, and that frame is the one sent. -/
theorem exec_frameSent_idle {n : Notice} {ns : List Notice} (idle : s.link.tx = none) (queue : s.link.rxQueue = [])
    (empty : s.link.reply = none) (no : s.link.restart = .no) (notices : s.link.notices = n :: ns) :
    exec .frameSent s = .next { s with link := { s.link with tx := ns.head?.map .notice, notices := ns.drop 1 } } := by
  have chosen := txChoose_of_notice idle (by rw [no]; decide) empty notices
  have first : exec .frameSent s = exec .frameSent s.txChoose := by
    rw [exec_frameSent, exec_frameSent, State.frameSent, State.frameSent, State.txChoose_txChoose]
  rw [first, chosen]
  cases ns with
  | nil => exact exec_frameSent_nothing rfl queue no empty rfl
  | cons m ms => exact exec_frameSent_notice rfl queue no empty rfl

/-- The reply of a WARM_RESTART has been sent: the reset is due, and nothing is sent until it comes. -/
theorem exec_frameSent_restart (sending : s.link.tx.isSome = true) (pending : s.link.restart = .replyPending)
    (empty : s.link.reply = none) :
    exec .frameSent s = .next { s with link := { s.link with tx := none, restart := .due } } := by
  obtain ⟨frame, tx⟩ := Option.isSome_iff_exists.mp sending
  have ended : s.frameSent = (sent s).setLink { (sent s).link with restart := .due } := by
    simp only [State.frameSent, s.txChoose_sending sending, tx, if_pos (And.intro pending empty)]
    rfl
  rw [exec_frameSent, ended, txChoose_of_due rfl]
  rfl

end

/-- Settles O7: the busy link, and the end of a frame by what waits behind it. -/
theorem linkQueuesAreServedInOrder : Obligations.LinkQueuesAreServedInOrder := by
  unfold Obligations.LinkQueuesAreServedInOrder
  refine ⟨?busy, ?quiet, ?dispatches, ?idle, ?restart⟩
  case busy =>
    intro c f s frame fits sending waits
    rw [exec_request_busy frame fits sending waits]
    exact ⟨fun room => congrArg _ (if_pos room), fun full => congrArg _ (if_neg (Nat.not_lt.mpr full))⟩
  case quiet =>
    intro s sending queue no
    refine ⟨fun r reply => ?_, fun n ns empty notices => ?_, fun empty notices => ?_⟩
    · exact exec_frameSent_reply sending (by rw [no]; decide) reply (.inl queue)
    · exact exec_frameSent_notice sending queue no empty notices
    · exact exec_frameSent_nothing sending queue no empty notices
  case dispatches =>
    intro f r fs s sending queue reply no
    exact exec_frameSent_dispatches sending queue reply no
  case idle =>
    intro n ns s idle queue empty no notices
    exact exec_frameSent_idle idle queue empty no notices
  case restart =>
    intro s sending pending
    refine ⟨exec_frameSent_restart sending pending, fun r reply => ?_⟩
    exact exec_frameSent_reply sending (by rw [pending]; decide) reply (.inr (by rw [pending]; decide))

end Sys2Proof.Machine.LinkQueues
end

section
/-! PROOFS. Power-on with every input released (R193): the blocks' start step by step, up to State.reset. -/

namespace Sys2Proof.Machine.PowerOn

open Sys2Proof

/-- Every input released, the display unlocked, the keyswitch at OPERATOR, 115,200 baud (log 5). -/
def released : Pins :=
  { fastLink := false, haltAsserted := false, locked := false, supervisor := false, wireBreakA := false,
    wireBreakB := false, attention := 0 }

/-- State.reset with the commands that wait. -/
def resetWith (pending : List Instr) : State := { State.reset with pending := pending }

/-- The prompt TRACK_CHECK, behind STARTED its notice. -/
theorem startTrackCheck_released (pending : List Instr) :
    (powerOnState released pending).startTrackCheck = resetWith pending := rfl

theorem startHalt_released (pending : List Instr) : (resetWith pending).startHalt = resetWith pending := rfl

/-- An enabled head with its wire whole enters IDLE, where it stands; without a strip there is no work. -/
theorem startHead_released (pending : List Instr) (h : HeadId) :
    (resetWith pending).startHead h = resetWith pending := by
  cases h <;> rfl

theorem powerOn_released (s : State) : s.powerOn released = resetWith s.pending := by
  rw [State.powerOn, startTrackCheck_released, startHalt_released, startHead_released, startHead_released]

/-- Settles O2: the start of the blocks one after the other; the rules are read off the values of the reset. -/
theorem resetIsCleanPowerOn : Obligations.ResetIsCleanPowerOn := by
  unfold Obligations.ResetIsCleanPowerOn
  refine ⟨fun s => ?power, rfl, rfl, rfl, ?layout⟩
  case power =>
    have arm : exec (.powerOnReset released) s = .next (s.powerOn released) := rfl
    exact arm.trans (congrArg _ (powerOn_released s))
  case layout =>
    intro loaded
    cases loaded

end Sys2Proof.Machine.PowerOn
end
